-- ==== Sys2Proof/Word.lean ====
section
/-! DEFINITION. Word.lean: the two widths of the core (00_scope.md R5): bytes and 16-bit words. -/

namespace Sys2Proof

/-- A register or memory cell, 8 bits (00_scope.md R5). -/
abbrev Byte := BitVec 8

/-- An address, PC or any 16-bit quantity (00_scope.md R5). -/
abbrev Word := BitVec 16

end Sys2Proof
end

