-- ==== Sys2Proof/Machine/Bits.lean ====
section
/-! DEFINITION. Machine/Bits.lean: byte order and extension helpers (00_scope.md R7, R9). -/

namespace Sys2Proof.Machine

/-- `zext_16` (R7): an 8-bit value widened with zeros. -/
def zext16 (b : Byte) : Word := b.setWidth 16

/-- `sext_16` (R7): an 8-bit value widened by copying bit 7. -/
def sext16 (b : Byte) : Word := b.signExtend 16

/-- `Word(lo, hi)` (R9): least-significant byte first. -/
def makeWord (lo hi : Byte) : Word := zext16 lo ||| (zext16 hi <<< 8)

/-- `Bytes(w).lo` (R9). -/
def loByte (w : Word) : Byte := w.setWidth 8

/-- `Bytes(w).hi` (R9). -/
def hiByte (w : Word) : Byte := (w >>> 8).setWidth 8

/-- Whether two addresses lie in different pages (00_scope.md, glossary: the page of `a` is `a >> 8`). -/
def crossesPage (a b : Word) : Bool := a >>> 8 != b >>> 8

end Sys2Proof.Machine
end

