-- ==== Sys2Proof/Syntax.lean ====
section
/-! DEFINITION. Syntax.lean: the instructions, one constructor per row of opcode_table.json (30_encoding.md R48,
R54), with the operand bytes of the row's format (R43, R45), and the words the opcode table is written in. -/

namespace Sys2Proof

/-- The 56 mnemonics (30_encoding.md R48). -/
inductive Mnemonic where
  | ADC | AND | ASL | BCC | BCS | BEQ | BIT | BMI | BNE | BPL | BRK | BVC | BVS | CLC
  | CLD | CLI | CLV | CMP | CPX | CPY | DEC | DEX | DEY | EOR | INC | INX | INY | JMP
  | JSR | LDA | LDX | LDY | LSR | NOP | ORA | PHA | PHP | PLA | PLP | ROL | ROR | RTI
  | RTS | SBC | SEC | SED | SEI | STA | STX | STY | TAX | TAY | TSX | TXA | TXS | TYA
deriving DecidableEq, Repr

/-- The 13 addressing modes (40_addressing.md R57 to R69). -/
inductive Mode where
  | imp | acc | imm | zp | zpx | zpy | abs | absx | absy | ind | indx | indy | rel
deriving DecidableEq, Repr

/-- The source's Instruction Descriptor: one row of the opcode table (30_encoding.md R48, R55). -/
structure Descriptor where
  opcode         : Byte
  mnemonic       : Mnemonic
  mode           : Mode
  bytes          : Nat
  baseCycles     : Nat
  pageCrossCycle : Bool
  branchCycles   : Bool
deriving DecidableEq, Repr

/-- What stands after the opcode byte (30_encoding.md R43, R45). -/
inductive OperandBytes where
  | none
  | one (nn : Byte)
  | two (word : Word)
deriving DecidableEq, Repr

/-- The instructions. A `Byte` operand is the second byte of the instruction, a `Word` operand its second (low)
and third (high) byte. -/
inductive Instr where
  -- LDA (41_load_store_transfer.md R72)
  | ldaIndx (nn : Byte)
  | ldaZp (nn : Byte)
  | ldaImm (value : Byte)
  | ldaAbs (addr : Word)
  | ldaIndy (nn : Byte)
  | ldaZpx (nn : Byte)
  | ldaAbsy (base : Word)
  | ldaAbsx (base : Word)
  -- LDX (41_load_store_transfer.md R73)
  | ldxImm (value : Byte)
  | ldxZp (nn : Byte)
  | ldxAbs (addr : Word)
  | ldxZpy (nn : Byte)
  | ldxAbsy (base : Word)
  -- LDY (41_load_store_transfer.md R74)
  | ldyImm (value : Byte)
  | ldyZp (nn : Byte)
  | ldyAbs (addr : Word)
  | ldyZpx (nn : Byte)
  | ldyAbsx (base : Word)
  -- STA (41_load_store_transfer.md R75)
  | staIndx (nn : Byte)
  | staZp (nn : Byte)
  | staAbs (addr : Word)
  | staIndy (nn : Byte)
  | staZpx (nn : Byte)
  | staAbsy (base : Word)
  | staAbsx (base : Word)
  -- STX (41_load_store_transfer.md R76)
  | stxZp (nn : Byte)
  | stxAbs (addr : Word)
  | stxZpy (nn : Byte)
  -- STY (41_load_store_transfer.md R77)
  | styZp (nn : Byte)
  | styAbs (addr : Word)
  | styZpx (nn : Byte)
  -- TAX (41_load_store_transfer.md R78)
  | tax
  -- TAY (41_load_store_transfer.md R79)
  | tay
  -- TXA (41_load_store_transfer.md R80)
  | txa
  -- TYA (41_load_store_transfer.md R81)
  | tya
  -- TSX (41_load_store_transfer.md R82)
  | tsx
  -- TXS (41_load_store_transfer.md R83)
  | txs
  -- ADC (42_arith_logic.md R85)
  | adcIndx (nn : Byte)
  | adcZp (nn : Byte)
  | adcImm (value : Byte)
  | adcAbs (addr : Word)
  | adcIndy (nn : Byte)
  | adcZpx (nn : Byte)
  | adcAbsy (base : Word)
  | adcAbsx (base : Word)
  -- SBC (42_arith_logic.md R86)
  | sbcIndx (nn : Byte)
  | sbcZp (nn : Byte)
  | sbcImm (value : Byte)
  | sbcAbs (addr : Word)
  | sbcIndy (nn : Byte)
  | sbcZpx (nn : Byte)
  | sbcAbsy (base : Word)
  | sbcAbsx (base : Word)
  -- AND (42_arith_logic.md R87)
  | andIndx (nn : Byte)
  | andZp (nn : Byte)
  | andImm (value : Byte)
  | andAbs (addr : Word)
  | andIndy (nn : Byte)
  | andZpx (nn : Byte)
  | andAbsy (base : Word)
  | andAbsx (base : Word)
  -- ORA (42_arith_logic.md R88)
  | oraIndx (nn : Byte)
  | oraZp (nn : Byte)
  | oraImm (value : Byte)
  | oraAbs (addr : Word)
  | oraIndy (nn : Byte)
  | oraZpx (nn : Byte)
  | oraAbsy (base : Word)
  | oraAbsx (base : Word)
  -- EOR (42_arith_logic.md R89)
  | eorIndx (nn : Byte)
  | eorZp (nn : Byte)
  | eorImm (value : Byte)
  | eorAbs (addr : Word)
  | eorIndy (nn : Byte)
  | eorZpx (nn : Byte)
  | eorAbsy (base : Word)
  | eorAbsx (base : Word)
  -- CMP (42_arith_logic.md R90)
  | cmpIndx (nn : Byte)
  | cmpZp (nn : Byte)
  | cmpImm (value : Byte)
  | cmpAbs (addr : Word)
  | cmpIndy (nn : Byte)
  | cmpZpx (nn : Byte)
  | cmpAbsy (base : Word)
  | cmpAbsx (base : Word)
  -- CPX (42_arith_logic.md R91)
  | cpxImm (value : Byte)
  | cpxZp (nn : Byte)
  | cpxAbs (addr : Word)
  -- CPY (42_arith_logic.md R92)
  | cpyImm (value : Byte)
  | cpyZp (nn : Byte)
  | cpyAbs (addr : Word)
  -- BIT (42_arith_logic.md R93)
  | bitZp (nn : Byte)
  | bitAbs (addr : Word)
  -- INC (42_arith_logic.md R94)
  | incZp (nn : Byte)
  | incAbs (addr : Word)
  | incZpx (nn : Byte)
  | incAbsx (base : Word)
  -- DEC (42_arith_logic.md R95)
  | decZp (nn : Byte)
  | decAbs (addr : Word)
  | decZpx (nn : Byte)
  | decAbsx (base : Word)
  -- INX (42_arith_logic.md R96)
  | inx
  -- INY (42_arith_logic.md R97)
  | iny
  -- DEX (42_arith_logic.md R98)
  | dex
  -- DEY (42_arith_logic.md R99)
  | dey
  -- ASL (43_shift_rotate.md R100)
  | aslZp (nn : Byte)
  | aslAcc
  | aslAbs (addr : Word)
  | aslZpx (nn : Byte)
  | aslAbsx (base : Word)
  -- LSR (43_shift_rotate.md R101)
  | lsrZp (nn : Byte)
  | lsrAcc
  | lsrAbs (addr : Word)
  | lsrZpx (nn : Byte)
  | lsrAbsx (base : Word)
  -- ROL (43_shift_rotate.md R102)
  | rolZp (nn : Byte)
  | rolAcc
  | rolAbs (addr : Word)
  | rolZpx (nn : Byte)
  | rolAbsx (base : Word)
  -- ROR (43_shift_rotate.md R103)
  | rorZp (nn : Byte)
  | rorAcc
  | rorAbs (addr : Word)
  | rorZpx (nn : Byte)
  | rorAbsx (base : Word)
  -- PHA (44_stack.md R109)
  | pha
  -- PHP (44_stack.md R110)
  | php
  -- PLA (44_stack.md R111)
  | pla
  -- PLP (44_stack.md R112)
  | plp
  -- JMP (45_control.md R113)
  | jmpAbs (target : Word)
  | jmpInd (ptr : Word)
  -- JSR (45_control.md R114)
  | jsr (target : Word)
  -- RTS (45_control.md R115)
  | rts
  -- BCC (45_control.md R117)
  | bcc (disp : Byte)
  -- BCS (45_control.md R118)
  | bcs (disp : Byte)
  -- BEQ (45_control.md R119)
  | beq (disp : Byte)
  -- BMI (45_control.md R120)
  | bmi (disp : Byte)
  -- BNE (45_control.md R121)
  | bne (disp : Byte)
  -- BPL (45_control.md R122)
  | bpl (disp : Byte)
  -- BVC (45_control.md R123)
  | bvc (disp : Byte)
  -- BVS (45_control.md R124)
  | bvs (disp : Byte)
  -- CLC (46_flags_system.md R126)
  | clc
  -- CLD (46_flags_system.md R127)
  | cld
  -- CLI (46_flags_system.md R128)
  | cli
  -- CLV (46_flags_system.md R129)
  | clv
  -- SEC (46_flags_system.md R130)
  | sec
  -- SED (46_flags_system.md R131)
  | sed
  -- SEI (46_flags_system.md R132)
  | sei
  -- NOP (46_flags_system.md R133)
  | nop
  -- BRK (46_flags_system.md R134)
  | brk
  -- RTI (46_flags_system.md R135)
  | rti
deriving DecidableEq, Repr

end Sys2Proof
end

