-- ==== Sys2Proof/WellFormed.lean ====
section
/-! DEFINITION. WellFormed.lean: when a table row and the operand bytes beside it make an instruction of the
core (30_encoding.md R43, R55; 40_addressing.md R70; 45_control.md R116). -/

namespace Sys2Proof

/-- The format of a mode: how many bytes its instructions take (R43). -/
def Mode.bytes : Mode → Nat
  | .imp | .acc => 1
  | .imm | .zp | .zpx | .zpy | .indx | .indy | .rel => 2
  | .abs | .absx | .absy | .ind => 3

/-- How many bytes stand after the opcode. -/
def OperandBytes.count : OperandBytes → Nat
  | .none => 0
  | .one _ => 1
  | .two _ => 2

/-- The row's length is that of its mode's format (R43). -/
def Descriptor.lengthOk (d : Descriptor) : Bool := d.bytes == d.mode.bytes

/-- Only the indexed modes that carry into the high byte can add a page-crossing cycle (R70). -/
def Descriptor.pageCrossOk (d : Descriptor) : Bool :=
  !d.pageCrossCycle || (d.mode == .absx || d.mode == .absy || d.mode == .indy)

/-- Branch cycles belong to the relative mode, and to it alone (R116). -/
def Descriptor.branchOk (d : Descriptor) : Bool := d.branchCycles == (d.mode == .rel)

/-- The operand bytes fill the row's length (R43). -/
def Descriptor.operandOk (d : Descriptor) (o : OperandBytes) : Bool := o.count + 1 == d.bytes

/-- A row and the bytes beside it are well-formed. -/
def Descriptor.wellFormed (d : Descriptor) (o : OperandBytes) : Bool :=
  d.lengthOk && d.pageCrossOk && d.branchOk && d.operandOk o

end Sys2Proof
end

