-- ==== Sys2Proof/Decode.lean ====
section
/-! DEFINITION. Decode.lean: the opcode table (30_encoding.md R48, R54, R55, R160 of 70_reset_and_hazards.md), the
decoder, total on any bytes, and the encoder written from the same table. -/

namespace Sys2Proof

/-- What an opcode byte announces: a whole instruction, or how to make one of the byte or the word that follows (R43). -/
inductive Form where
  | implied (i : Instr)
  | byteOperand (mk : Byte → Instr)
  | wordOperand (mk : Word → Instr)

/-- Why bytes are no instruction. -/
inductive DecodeReject where
  /-- There is no byte at all. -/
  | noBytes
  /-- The first byte is one of the 105 illegal ones (R49). -/
  | illegalOpcode (opcode : Byte)
  /-- The opcode's operand bytes are not all there. -/
  | truncated (opcode : Byte)
deriving DecidableEq, Repr

/-- The 256-entry lookup of the decoder (R44, R54); `none` is an illegal byte (R49). -/
def opcodeForm (opcode : Byte) : Option Form :=
  match opcode.toNat with
  | 0x00 => some (.implied .brk)
  | 0x01 => some (.byteOperand .oraIndx)
  | 0x05 => some (.byteOperand .oraZp)
  | 0x06 => some (.byteOperand .aslZp)
  | 0x08 => some (.implied .php)
  | 0x09 => some (.byteOperand .oraImm)
  | 0x0A => some (.implied .aslAcc)
  | 0x0D => some (.wordOperand .oraAbs)
  | 0x0E => some (.wordOperand .aslAbs)
  | 0x10 => some (.byteOperand .bpl)
  | 0x11 => some (.byteOperand .oraIndy)
  | 0x15 => some (.byteOperand .oraZpx)
  | 0x16 => some (.byteOperand .aslZpx)
  | 0x18 => some (.implied .clc)
  | 0x19 => some (.wordOperand .oraAbsy)
  | 0x1D => some (.wordOperand .oraAbsx)
  | 0x1E => some (.wordOperand .aslAbsx)
  | 0x20 => some (.wordOperand .jsr)
  | 0x21 => some (.byteOperand .andIndx)
  | 0x24 => some (.byteOperand .bitZp)
  | 0x25 => some (.byteOperand .andZp)
  | 0x26 => some (.byteOperand .rolZp)
  | 0x28 => some (.implied .plp)
  | 0x29 => some (.byteOperand .andImm)
  | 0x2A => some (.implied .rolAcc)
  | 0x2C => some (.wordOperand .bitAbs)
  | 0x2D => some (.wordOperand .andAbs)
  | 0x2E => some (.wordOperand .rolAbs)
  | 0x30 => some (.byteOperand .bmi)
  | 0x31 => some (.byteOperand .andIndy)
  | 0x35 => some (.byteOperand .andZpx)
  | 0x36 => some (.byteOperand .rolZpx)
  | 0x38 => some (.implied .sec)
  | 0x39 => some (.wordOperand .andAbsy)
  | 0x3D => some (.wordOperand .andAbsx)
  | 0x3E => some (.wordOperand .rolAbsx)
  | 0x40 => some (.implied .rti)
  | 0x41 => some (.byteOperand .eorIndx)
  | 0x45 => some (.byteOperand .eorZp)
  | 0x46 => some (.byteOperand .lsrZp)
  | 0x48 => some (.implied .pha)
  | 0x49 => some (.byteOperand .eorImm)
  | 0x4A => some (.implied .lsrAcc)
  | 0x4C => some (.wordOperand .jmpAbs)
  | 0x4D => some (.wordOperand .eorAbs)
  | 0x4E => some (.wordOperand .lsrAbs)
  | 0x50 => some (.byteOperand .bvc)
  | 0x51 => some (.byteOperand .eorIndy)
  | 0x55 => some (.byteOperand .eorZpx)
  | 0x56 => some (.byteOperand .lsrZpx)
  | 0x58 => some (.implied .cli)
  | 0x59 => some (.wordOperand .eorAbsy)
  | 0x5D => some (.wordOperand .eorAbsx)
  | 0x5E => some (.wordOperand .lsrAbsx)
  | 0x60 => some (.implied .rts)
  | 0x61 => some (.byteOperand .adcIndx)
  | 0x65 => some (.byteOperand .adcZp)
  | 0x66 => some (.byteOperand .rorZp)
  | 0x68 => some (.implied .pla)
  | 0x69 => some (.byteOperand .adcImm)
  | 0x6A => some (.implied .rorAcc)
  | 0x6C => some (.wordOperand .jmpInd)
  | 0x6D => some (.wordOperand .adcAbs)
  | 0x6E => some (.wordOperand .rorAbs)
  | 0x70 => some (.byteOperand .bvs)
  | 0x71 => some (.byteOperand .adcIndy)
  | 0x75 => some (.byteOperand .adcZpx)
  | 0x76 => some (.byteOperand .rorZpx)
  | 0x78 => some (.implied .sei)
  | 0x79 => some (.wordOperand .adcAbsy)
  | 0x7D => some (.wordOperand .adcAbsx)
  | 0x7E => some (.wordOperand .rorAbsx)
  | 0x81 => some (.byteOperand .staIndx)
  | 0x84 => some (.byteOperand .styZp)
  | 0x85 => some (.byteOperand .staZp)
  | 0x86 => some (.byteOperand .stxZp)
  | 0x88 => some (.implied .dey)
  | 0x8A => some (.implied .txa)
  | 0x8C => some (.wordOperand .styAbs)
  | 0x8D => some (.wordOperand .staAbs)
  | 0x8E => some (.wordOperand .stxAbs)
  | 0x90 => some (.byteOperand .bcc)
  | 0x91 => some (.byteOperand .staIndy)
  | 0x94 => some (.byteOperand .styZpx)
  | 0x95 => some (.byteOperand .staZpx)
  | 0x96 => some (.byteOperand .stxZpy)
  | 0x98 => some (.implied .tya)
  | 0x99 => some (.wordOperand .staAbsy)
  | 0x9A => some (.implied .txs)
  | 0x9D => some (.wordOperand .staAbsx)
  | 0xA0 => some (.byteOperand .ldyImm)
  | 0xA1 => some (.byteOperand .ldaIndx)
  | 0xA2 => some (.byteOperand .ldxImm)
  | 0xA4 => some (.byteOperand .ldyZp)
  | 0xA5 => some (.byteOperand .ldaZp)
  | 0xA6 => some (.byteOperand .ldxZp)
  | 0xA8 => some (.implied .tay)
  | 0xA9 => some (.byteOperand .ldaImm)
  | 0xAA => some (.implied .tax)
  | 0xAC => some (.wordOperand .ldyAbs)
  | 0xAD => some (.wordOperand .ldaAbs)
  | 0xAE => some (.wordOperand .ldxAbs)
  | 0xB0 => some (.byteOperand .bcs)
  | 0xB1 => some (.byteOperand .ldaIndy)
  | 0xB4 => some (.byteOperand .ldyZpx)
  | 0xB5 => some (.byteOperand .ldaZpx)
  | 0xB6 => some (.byteOperand .ldxZpy)
  | 0xB8 => some (.implied .clv)
  | 0xB9 => some (.wordOperand .ldaAbsy)
  | 0xBA => some (.implied .tsx)
  | 0xBC => some (.wordOperand .ldyAbsx)
  | 0xBD => some (.wordOperand .ldaAbsx)
  | 0xBE => some (.wordOperand .ldxAbsy)
  | 0xC0 => some (.byteOperand .cpyImm)
  | 0xC1 => some (.byteOperand .cmpIndx)
  | 0xC4 => some (.byteOperand .cpyZp)
  | 0xC5 => some (.byteOperand .cmpZp)
  | 0xC6 => some (.byteOperand .decZp)
  | 0xC8 => some (.implied .iny)
  | 0xC9 => some (.byteOperand .cmpImm)
  | 0xCA => some (.implied .dex)
  | 0xCC => some (.wordOperand .cpyAbs)
  | 0xCD => some (.wordOperand .cmpAbs)
  | 0xCE => some (.wordOperand .decAbs)
  | 0xD0 => some (.byteOperand .bne)
  | 0xD1 => some (.byteOperand .cmpIndy)
  | 0xD5 => some (.byteOperand .cmpZpx)
  | 0xD6 => some (.byteOperand .decZpx)
  | 0xD8 => some (.implied .cld)
  | 0xD9 => some (.wordOperand .cmpAbsy)
  | 0xDD => some (.wordOperand .cmpAbsx)
  | 0xDE => some (.wordOperand .decAbsx)
  | 0xE0 => some (.byteOperand .cpxImm)
  | 0xE1 => some (.byteOperand .sbcIndx)
  | 0xE4 => some (.byteOperand .cpxZp)
  | 0xE5 => some (.byteOperand .sbcZp)
  | 0xE6 => some (.byteOperand .incZp)
  | 0xE8 => some (.implied .inx)
  | 0xE9 => some (.byteOperand .sbcImm)
  | 0xEA => some (.implied .nop)
  | 0xEC => some (.wordOperand .cpxAbs)
  | 0xED => some (.wordOperand .sbcAbs)
  | 0xEE => some (.wordOperand .incAbs)
  | 0xF0 => some (.byteOperand .beq)
  | 0xF1 => some (.byteOperand .sbcIndy)
  | 0xF5 => some (.byteOperand .sbcZpx)
  | 0xF6 => some (.byteOperand .incZpx)
  | 0xF8 => some (.implied .sed)
  | 0xF9 => some (.wordOperand .sbcAbsy)
  | 0xFD => some (.wordOperand .sbcAbsx)
  | 0xFE => some (.wordOperand .incAbsx)
  | _ => none

/-- How many operand bytes an opcode's form takes (R43: the opcode byte alone decides). -/
def Form.operandCount : Form → Nat
  | .implied _ => 0
  | .byteOperand _ => 1
  | .wordOperand _ => 2

/-- Decode the instruction at the head of `bytes`; the rest of the bytes come back with it. -/
def decode (bytes : List Byte) : Except DecodeReject (Instr × List Byte) :=
  match bytes with
  | [] => .error .noBytes
  | op :: rest =>
    match opcodeForm op, rest with
    | none, _ => .error (.illegalOpcode op)
    | some (.implied i), rest => .ok (i, rest)
    | some (.byteOperand mk), nn :: rest => .ok (mk nn, rest)
    | some (.wordOperand mk), ll :: hh :: rest => .ok (mk (Machine.makeWord ll hh), rest)
    | some _, _ => .error (.truncated op)

/-- The instruction's row of the opcode table (R55; the cycle figures are those of R160). -/
def Instr.descriptor : Instr → Descriptor
  | .brk => ⟨0x00, .BRK, .imp, 1, 7, false, false⟩
  | .oraIndx _ => ⟨0x01, .ORA, .indx, 2, 6, false, false⟩
  | .oraZp _ => ⟨0x05, .ORA, .zp, 2, 3, false, false⟩
  | .aslZp _ => ⟨0x06, .ASL, .zp, 2, 5, false, false⟩
  | .php => ⟨0x08, .PHP, .imp, 1, 3, false, false⟩
  | .oraImm _ => ⟨0x09, .ORA, .imm, 2, 2, false, false⟩
  | .aslAcc => ⟨0x0A, .ASL, .acc, 1, 2, false, false⟩
  | .oraAbs _ => ⟨0x0D, .ORA, .abs, 3, 4, false, false⟩
  | .aslAbs _ => ⟨0x0E, .ASL, .abs, 3, 6, false, false⟩
  | .bpl _ => ⟨0x10, .BPL, .rel, 2, 2, false, true⟩
  | .oraIndy _ => ⟨0x11, .ORA, .indy, 2, 5, true, false⟩
  | .oraZpx _ => ⟨0x15, .ORA, .zpx, 2, 4, false, false⟩
  | .aslZpx _ => ⟨0x16, .ASL, .zpx, 2, 6, false, false⟩
  | .clc => ⟨0x18, .CLC, .imp, 1, 2, false, false⟩
  | .oraAbsy _ => ⟨0x19, .ORA, .absy, 3, 4, true, false⟩
  | .oraAbsx _ => ⟨0x1D, .ORA, .absx, 3, 4, true, false⟩
  | .aslAbsx _ => ⟨0x1E, .ASL, .absx, 3, 7, false, false⟩
  | .jsr _ => ⟨0x20, .JSR, .abs, 3, 6, false, false⟩
  | .andIndx _ => ⟨0x21, .AND, .indx, 2, 6, false, false⟩
  | .bitZp _ => ⟨0x24, .BIT, .zp, 2, 3, false, false⟩
  | .andZp _ => ⟨0x25, .AND, .zp, 2, 3, false, false⟩
  | .rolZp _ => ⟨0x26, .ROL, .zp, 2, 5, false, false⟩
  | .plp => ⟨0x28, .PLP, .imp, 1, 4, false, false⟩
  | .andImm _ => ⟨0x29, .AND, .imm, 2, 2, false, false⟩
  | .rolAcc => ⟨0x2A, .ROL, .acc, 1, 2, false, false⟩
  | .bitAbs _ => ⟨0x2C, .BIT, .abs, 3, 4, false, false⟩
  | .andAbs _ => ⟨0x2D, .AND, .abs, 3, 4, false, false⟩
  | .rolAbs _ => ⟨0x2E, .ROL, .abs, 3, 6, false, false⟩
  | .bmi _ => ⟨0x30, .BMI, .rel, 2, 2, false, true⟩
  | .andIndy _ => ⟨0x31, .AND, .indy, 2, 5, true, false⟩
  | .andZpx _ => ⟨0x35, .AND, .zpx, 2, 4, false, false⟩
  | .rolZpx _ => ⟨0x36, .ROL, .zpx, 2, 6, false, false⟩
  | .sec => ⟨0x38, .SEC, .imp, 1, 2, false, false⟩
  | .andAbsy _ => ⟨0x39, .AND, .absy, 3, 4, true, false⟩
  | .andAbsx _ => ⟨0x3D, .AND, .absx, 3, 4, true, false⟩
  | .rolAbsx _ => ⟨0x3E, .ROL, .absx, 3, 7, false, false⟩
  | .rti => ⟨0x40, .RTI, .imp, 1, 6, false, false⟩
  | .eorIndx _ => ⟨0x41, .EOR, .indx, 2, 6, false, false⟩
  | .eorZp _ => ⟨0x45, .EOR, .zp, 2, 3, false, false⟩
  | .lsrZp _ => ⟨0x46, .LSR, .zp, 2, 5, false, false⟩
  | .pha => ⟨0x48, .PHA, .imp, 1, 3, false, false⟩
  | .eorImm _ => ⟨0x49, .EOR, .imm, 2, 2, false, false⟩
  | .lsrAcc => ⟨0x4A, .LSR, .acc, 1, 2, false, false⟩
  | .jmpAbs _ => ⟨0x4C, .JMP, .abs, 3, 3, false, false⟩
  | .eorAbs _ => ⟨0x4D, .EOR, .abs, 3, 4, false, false⟩
  | .lsrAbs _ => ⟨0x4E, .LSR, .abs, 3, 6, false, false⟩
  | .bvc _ => ⟨0x50, .BVC, .rel, 2, 2, false, true⟩
  | .eorIndy _ => ⟨0x51, .EOR, .indy, 2, 5, true, false⟩
  | .eorZpx _ => ⟨0x55, .EOR, .zpx, 2, 4, false, false⟩
  | .lsrZpx _ => ⟨0x56, .LSR, .zpx, 2, 6, false, false⟩
  | .cli => ⟨0x58, .CLI, .imp, 1, 2, false, false⟩
  | .eorAbsy _ => ⟨0x59, .EOR, .absy, 3, 4, true, false⟩
  | .eorAbsx _ => ⟨0x5D, .EOR, .absx, 3, 4, true, false⟩
  | .lsrAbsx _ => ⟨0x5E, .LSR, .absx, 3, 7, false, false⟩
  | .rts => ⟨0x60, .RTS, .imp, 1, 6, false, false⟩
  | .adcIndx _ => ⟨0x61, .ADC, .indx, 2, 6, false, false⟩
  | .adcZp _ => ⟨0x65, .ADC, .zp, 2, 3, false, false⟩
  | .rorZp _ => ⟨0x66, .ROR, .zp, 2, 5, false, false⟩
  | .pla => ⟨0x68, .PLA, .imp, 1, 4, false, false⟩
  | .adcImm _ => ⟨0x69, .ADC, .imm, 2, 2, false, false⟩
  | .rorAcc => ⟨0x6A, .ROR, .acc, 1, 2, false, false⟩
  | .jmpInd _ => ⟨0x6C, .JMP, .ind, 3, 5, false, false⟩
  | .adcAbs _ => ⟨0x6D, .ADC, .abs, 3, 4, false, false⟩
  | .rorAbs _ => ⟨0x6E, .ROR, .abs, 3, 6, false, false⟩
  | .bvs _ => ⟨0x70, .BVS, .rel, 2, 2, false, true⟩
  | .adcIndy _ => ⟨0x71, .ADC, .indy, 2, 5, true, false⟩
  | .adcZpx _ => ⟨0x75, .ADC, .zpx, 2, 4, false, false⟩
  | .rorZpx _ => ⟨0x76, .ROR, .zpx, 2, 6, false, false⟩
  | .sei => ⟨0x78, .SEI, .imp, 1, 2, false, false⟩
  | .adcAbsy _ => ⟨0x79, .ADC, .absy, 3, 4, true, false⟩
  | .adcAbsx _ => ⟨0x7D, .ADC, .absx, 3, 4, true, false⟩
  | .rorAbsx _ => ⟨0x7E, .ROR, .absx, 3, 7, false, false⟩
  | .staIndx _ => ⟨0x81, .STA, .indx, 2, 6, false, false⟩
  | .styZp _ => ⟨0x84, .STY, .zp, 2, 3, false, false⟩
  | .staZp _ => ⟨0x85, .STA, .zp, 2, 3, false, false⟩
  | .stxZp _ => ⟨0x86, .STX, .zp, 2, 3, false, false⟩
  | .dey => ⟨0x88, .DEY, .imp, 1, 2, false, false⟩
  | .txa => ⟨0x8A, .TXA, .imp, 1, 2, false, false⟩
  | .styAbs _ => ⟨0x8C, .STY, .abs, 3, 4, false, false⟩
  | .staAbs _ => ⟨0x8D, .STA, .abs, 3, 4, false, false⟩
  | .stxAbs _ => ⟨0x8E, .STX, .abs, 3, 4, false, false⟩
  | .bcc _ => ⟨0x90, .BCC, .rel, 2, 2, false, true⟩
  | .staIndy _ => ⟨0x91, .STA, .indy, 2, 6, false, false⟩
  | .styZpx _ => ⟨0x94, .STY, .zpx, 2, 4, false, false⟩
  | .staZpx _ => ⟨0x95, .STA, .zpx, 2, 4, false, false⟩
  | .stxZpy _ => ⟨0x96, .STX, .zpy, 2, 4, false, false⟩
  | .tya => ⟨0x98, .TYA, .imp, 1, 2, false, false⟩
  | .staAbsy _ => ⟨0x99, .STA, .absy, 3, 5, false, false⟩
  | .txs => ⟨0x9A, .TXS, .imp, 1, 2, false, false⟩
  | .staAbsx _ => ⟨0x9D, .STA, .absx, 3, 5, false, false⟩
  | .ldyImm _ => ⟨0xA0, .LDY, .imm, 2, 2, false, false⟩
  | .ldaIndx _ => ⟨0xA1, .LDA, .indx, 2, 6, false, false⟩
  | .ldxImm _ => ⟨0xA2, .LDX, .imm, 2, 2, false, false⟩
  | .ldyZp _ => ⟨0xA4, .LDY, .zp, 2, 3, false, false⟩
  | .ldaZp _ => ⟨0xA5, .LDA, .zp, 2, 3, false, false⟩
  | .ldxZp _ => ⟨0xA6, .LDX, .zp, 2, 3, false, false⟩
  | .tay => ⟨0xA8, .TAY, .imp, 1, 2, false, false⟩
  | .ldaImm _ => ⟨0xA9, .LDA, .imm, 2, 2, false, false⟩
  | .tax => ⟨0xAA, .TAX, .imp, 1, 2, false, false⟩
  | .ldyAbs _ => ⟨0xAC, .LDY, .abs, 3, 4, false, false⟩
  | .ldaAbs _ => ⟨0xAD, .LDA, .abs, 3, 4, false, false⟩
  | .ldxAbs _ => ⟨0xAE, .LDX, .abs, 3, 4, false, false⟩
  | .bcs _ => ⟨0xB0, .BCS, .rel, 2, 2, false, true⟩
  | .ldaIndy _ => ⟨0xB1, .LDA, .indy, 2, 5, true, false⟩
  | .ldyZpx _ => ⟨0xB4, .LDY, .zpx, 2, 4, false, false⟩
  | .ldaZpx _ => ⟨0xB5, .LDA, .zpx, 2, 4, false, false⟩
  | .ldxZpy _ => ⟨0xB6, .LDX, .zpy, 2, 4, false, false⟩
  | .clv => ⟨0xB8, .CLV, .imp, 1, 2, false, false⟩
  | .ldaAbsy _ => ⟨0xB9, .LDA, .absy, 3, 4, true, false⟩
  | .tsx => ⟨0xBA, .TSX, .imp, 1, 2, false, false⟩
  | .ldyAbsx _ => ⟨0xBC, .LDY, .absx, 3, 4, true, false⟩
  | .ldaAbsx _ => ⟨0xBD, .LDA, .absx, 3, 4, true, false⟩
  | .ldxAbsy _ => ⟨0xBE, .LDX, .absy, 3, 4, true, false⟩
  | .cpyImm _ => ⟨0xC0, .CPY, .imm, 2, 2, false, false⟩
  | .cmpIndx _ => ⟨0xC1, .CMP, .indx, 2, 6, false, false⟩
  | .cpyZp _ => ⟨0xC4, .CPY, .zp, 2, 3, false, false⟩
  | .cmpZp _ => ⟨0xC5, .CMP, .zp, 2, 3, false, false⟩
  | .decZp _ => ⟨0xC6, .DEC, .zp, 2, 5, false, false⟩
  | .iny => ⟨0xC8, .INY, .imp, 1, 2, false, false⟩
  | .cmpImm _ => ⟨0xC9, .CMP, .imm, 2, 2, false, false⟩
  | .dex => ⟨0xCA, .DEX, .imp, 1, 2, false, false⟩
  | .cpyAbs _ => ⟨0xCC, .CPY, .abs, 3, 4, false, false⟩
  | .cmpAbs _ => ⟨0xCD, .CMP, .abs, 3, 4, false, false⟩
  | .decAbs _ => ⟨0xCE, .DEC, .abs, 3, 6, false, false⟩
  | .bne _ => ⟨0xD0, .BNE, .rel, 2, 2, false, true⟩
  | .cmpIndy _ => ⟨0xD1, .CMP, .indy, 2, 5, true, false⟩
  | .cmpZpx _ => ⟨0xD5, .CMP, .zpx, 2, 4, false, false⟩
  | .decZpx _ => ⟨0xD6, .DEC, .zpx, 2, 6, false, false⟩
  | .cld => ⟨0xD8, .CLD, .imp, 1, 2, false, false⟩
  | .cmpAbsy _ => ⟨0xD9, .CMP, .absy, 3, 4, true, false⟩
  | .cmpAbsx _ => ⟨0xDD, .CMP, .absx, 3, 4, true, false⟩
  | .decAbsx _ => ⟨0xDE, .DEC, .absx, 3, 7, false, false⟩
  | .cpxImm _ => ⟨0xE0, .CPX, .imm, 2, 2, false, false⟩
  | .sbcIndx _ => ⟨0xE1, .SBC, .indx, 2, 6, false, false⟩
  | .cpxZp _ => ⟨0xE4, .CPX, .zp, 2, 3, false, false⟩
  | .sbcZp _ => ⟨0xE5, .SBC, .zp, 2, 3, false, false⟩
  | .incZp _ => ⟨0xE6, .INC, .zp, 2, 5, false, false⟩
  | .inx => ⟨0xE8, .INX, .imp, 1, 2, false, false⟩
  | .sbcImm _ => ⟨0xE9, .SBC, .imm, 2, 2, false, false⟩
  | .nop => ⟨0xEA, .NOP, .imp, 1, 2, false, false⟩
  | .cpxAbs _ => ⟨0xEC, .CPX, .abs, 3, 4, false, false⟩
  | .sbcAbs _ => ⟨0xED, .SBC, .abs, 3, 4, false, false⟩
  | .incAbs _ => ⟨0xEE, .INC, .abs, 3, 6, false, false⟩
  | .beq _ => ⟨0xF0, .BEQ, .rel, 2, 2, false, true⟩
  | .sbcIndy _ => ⟨0xF1, .SBC, .indy, 2, 5, true, false⟩
  | .sbcZpx _ => ⟨0xF5, .SBC, .zpx, 2, 4, false, false⟩
  | .incZpx _ => ⟨0xF6, .INC, .zpx, 2, 6, false, false⟩
  | .sed => ⟨0xF8, .SED, .imp, 1, 2, false, false⟩
  | .sbcAbsy _ => ⟨0xF9, .SBC, .absy, 3, 4, true, false⟩
  | .sbcAbsx _ => ⟨0xFD, .SBC, .absx, 3, 4, true, false⟩
  | .incAbsx _ => ⟨0xFE, .INC, .absx, 3, 7, false, false⟩

/-- The bytes after the instruction's opcode (R43, R45). -/
def Instr.operandBytes : Instr → OperandBytes
  | .brk | .php | .aslAcc | .clc | .plp | .rolAcc | .sec | .rti => .none
  | .pha | .lsrAcc | .cli | .rts | .pla | .rorAcc | .sei | .dey => .none
  | .txa | .tya | .txs | .tay | .tax | .clv | .tsx | .iny => .none
  | .dex | .cld | .inx | .nop | .sed => .none
  | .oraIndx v | .oraZp v | .aslZp v | .oraImm v | .bpl v | .oraIndy v | .oraZpx v | .aslZpx v => .one v
  | .andIndx v | .bitZp v | .andZp v | .rolZp v | .andImm v | .bmi v | .andIndy v | .andZpx v => .one v
  | .rolZpx v | .eorIndx v | .eorZp v | .lsrZp v | .eorImm v | .bvc v | .eorIndy v | .eorZpx v => .one v
  | .lsrZpx v | .adcIndx v | .adcZp v | .rorZp v | .adcImm v | .bvs v | .adcIndy v | .adcZpx v => .one v
  | .rorZpx v | .staIndx v | .styZp v | .staZp v | .stxZp v | .bcc v | .staIndy v | .styZpx v => .one v
  | .staZpx v | .stxZpy v | .ldyImm v | .ldaIndx v | .ldxImm v | .ldyZp v | .ldaZp v | .ldxZp v => .one v
  | .ldaImm v | .bcs v | .ldaIndy v | .ldyZpx v | .ldaZpx v | .ldxZpy v | .cpyImm v | .cmpIndx v => .one v
  | .cpyZp v | .cmpZp v | .decZp v | .cmpImm v | .bne v | .cmpIndy v | .cmpZpx v | .decZpx v => .one v
  | .cpxImm v | .sbcIndx v | .cpxZp v | .sbcZp v | .incZp v | .sbcImm v | .beq v | .sbcIndy v => .one v
  | .sbcZpx v | .incZpx v => .one v
  | .oraAbs v | .aslAbs v | .oraAbsy v | .oraAbsx v | .aslAbsx v | .jsr v | .bitAbs v | .andAbs v => .two v
  | .rolAbs v | .andAbsy v | .andAbsx v | .rolAbsx v | .jmpAbs v | .eorAbs v | .lsrAbs v | .eorAbsy v => .two v
  | .eorAbsx v | .lsrAbsx v | .jmpInd v | .adcAbs v | .rorAbs v | .adcAbsy v | .adcAbsx v | .rorAbsx v => .two v
  | .styAbs v | .staAbs v | .stxAbs v | .staAbsy v | .staAbsx v | .ldyAbs v | .ldaAbs v | .ldxAbs v => .two v
  | .ldaAbsy v | .ldyAbsx v | .ldaAbsx v | .ldxAbsy v | .cpyAbs v | .cmpAbs v | .decAbs v | .cmpAbsy v => .two v
  | .cmpAbsx v | .decAbsx v | .cpxAbs v | .sbcAbs v | .incAbs v | .sbcAbsy v | .sbcAbsx v | .incAbsx v => .two v

/-- The operand bytes in memory order, low byte first (20_memory.md R31). -/
def OperandBytes.toList : OperandBytes → List Byte
  | .none => []
  | .one nn => [nn]
  | .two w => [Machine.loByte w, Machine.hiByte w]

/-- The bytes of an instruction: its opcode and its operand bytes (R43). -/
def encode (i : Instr) : List Byte := i.descriptor.opcode :: i.operandBytes.toList

/-- The instruction's row and operand bytes are well-formed. -/
def Instr.wellFormed (i : Instr) : Bool := i.descriptor.wellFormed i.operandBytes

/-- The three bytes of an instruction whose bits are `w`, bit 0 the least significant bit of the first byte; the
bits from `nbits` up are 0. -/
def tableBytes (nbits w : Nat) : List Byte :=
  let v := w % 2 ^ nbits
  [BitVec.ofNat 8 v, BitVec.ofNat 8 (v / 2 ^ 8), BitVec.ofNat 8 (v / 2 ^ 16)]

/-- The instruction the decoder reads from a word numbered as opcode_table.json numbers it. -/
def decodeTableWord (nbits w : Nat) : Option Instr :=
  match decode (tableBytes nbits w) with
  | .ok (i, _) => some i
  | .error _ => none

end Sys2Proof
end

