-- ==== Sys2Proof/Config.lean ====
section
/-! DEFINITION. Config.lean: the model parameters of 00_scope.md R5 that are fixed for a run, and the one
free value of the model: what the host answers to a read of the external region. -/

namespace Sys2Proof

/-- RESET_ENTRY (70_reset_and_hazards.md R153): where reset takes the entry point from. -/
inductive ResetEntry where
  /-- PC is the word at 0xFFFC/0xFFFD, read through the bus. -/
  | vector
  /-- PC is the given address, no bus read. -/
  | fixed (entry : Word)
deriving DecidableEq, Repr

/-- EXT_BUS (20_memory.md R29): what stands behind the addresses 0x2000 to 0xFFFF. -/
inductive ExtBus where
  /-- A plain readable and writable store indexed by the raw address. -/
  | flat
  /-- The host answers reads and receives writes. -/
  | external
deriving DecidableEq, Repr

/-- The parameters fixed for a run and not addressable by any instruction (10_state.md R26). INIT_MEM, the
third parameter of 00_scope.md R5, is the memory a machine starts with: `powerOn` takes it as an argument. -/
structure Config where
  resetEntry : ResetEntry
  extBus     : ExtBus
deriving DecidableEq, Repr

/-- The spec's defaults: RESET_ENTRY = vector (R153), EXT_BUS = flat (R29). -/
def Config.default : Config := ⟨.vector, .flat⟩

/-- FREE VALUE (log entry 4): the byte the host answers to the n-th external read, made of the given address.
With EXT_BUS = external "ExtRead(a) returns a byte the host chooses" (20_memory.md R29). -/
opaque Config.extAnswer : Nat → Word → Byte

end Sys2Proof
end

