-- ==== Sys2Proof/Machine/Memory.lean ====
section
/-! DEFINITION. Machine/Memory.lean: the backing store `mem : array[0x10000] of byte` (20_memory.md R27) as a
list of (buffer index, byte) pairs in canonical form. -/

namespace Sys2Proof.Machine

/-- The backing store: buffer indices strictly rising, no entry equal to `unlistedByte`. -/
abbrev Memory := List Host.Cell

/-- Number of bytes of the backing store (20_memory.md R27). -/
def storeSize : Nat := 0x10000

/-- DESIGN CHOICE (log entry 1): what a buffer index with no entry reads as. The spec leaves INIT_MEM open
(20_memory.md R41); any INIT_MEM is some list, so a claim about every memory quantifies over it. -/
def unlistedByte : Byte := 0x00

/-- One byte of the store. -/
def Memory.read : Memory → Nat → Byte
  | [], _ => unlistedByte
  | (k, v) :: rest, i => if i = k then v else Memory.read rest i

/-- The store without an entry for index `i`. -/
def Memory.erase (m : Memory) (i : Nat) : Memory := m.filter fun cell => cell.1 != i

/-- An entry put before the first larger index. -/
def Memory.insert (i : Nat) (v : Byte) : Memory → Memory
  | [] => [(i, v)]
  | (k, w) :: rest => if i < k then (i, v) :: (k, w) :: rest else (k, w) :: Memory.insert i v rest

/-- Store one byte, keeping the canonical form: an entry only where the byte is not the unlisted one. -/
def Memory.write (m : Memory) (i : Nat) (v : Byte) : Memory :=
  if v = unlistedByte then m.erase i else Memory.insert i v (m.erase i)

/-- Every index of the list is at least `lo`, strictly rising, inside the store, and no byte is the unlisted one. -/
def Memory.wfFrom : Nat → Memory → Bool
  | _, [] => true
  | lo, (k, v) :: rest => decide (lo ≤ k) && decide (k < storeSize) && decide (v ≠ unlistedByte) && Memory.wfFrom (k + 1) rest

/-- The canonical form of the store. -/
def Memory.wf (m : Memory) : Bool := Memory.wfFrom 0 m

end Sys2Proof.Machine
end

