-- ==== Sys2Proof/Machine/State.lean ====
section
/-! DEFINITION. Machine/State.lean: the state of the core (10_state.md) as plain data, the reasons a step can
stop, and the state after reset (70_reset_and_hazards.md R152). -/

namespace Sys2Proof.Machine

/-- The six flags of P that have storage (10_state.md R17, R18). Bit 4 has no storage and bit 5 is constant:
`Status.toByte` and `Status.ofByte` give P as a byte (log entry 5). -/
structure Status where
  c : Bool
  z : Bool
  i : Bool
  d : Bool
  v : Bool
  n : Bool
deriving DecidableEq, Repr

/-- The register snapshot of a FatalOpcode (60_exceptions.md R137). -/
structure Snapshot where
  a      : Byte
  x      : Byte
  y      : Byte
  sp     : Byte
  p      : Byte
  cycles : Nat
deriving DecidableEq, Repr

/-- The diagnostic record of a FatalOpcode (60_exceptions.md R137): where the byte stood, the byte, the registers. -/
structure FatalRecord where
  pc       : Word
  opcode   : Byte
  snapshot : Snapshot
deriving DecidableEq, Repr

/-- One access to the external region that was delivered to the host (20_memory.md R29, EXT_BUS = external). -/
inductive ExtAccess where
  | read (addr : Word) (answer : Byte)
  | write (addr : Word) (value : Byte)
deriving DecidableEq, Repr

/-- The machine's state (10_state.md, head of the file) with the memory of 20_memory.md, the parameters of
00_scope.md R5 and the model's own input and output fields (INVENTORY.md, State). -/
structure State where
  /-- A (R11). -/
  a : Byte
  /-- X (R11). -/
  x : Byte
  /-- Y (R11). -/
  y : Byte
  /-- SP (R15). -/
  sp : Byte
  /-- PC (R16). -/
  pc : Word
  /-- P (R17). -/
  p : Status
  /-- The cycle counter (R24). -/
  cycles : Nat
  /-- The latched NMI request (R23, R139). -/
  nmiPending : Bool
  /-- The I value the next poll uses (R23, R141). -/
  iPoll : Bool
  /-- The next step does not poll (R23, R141). -/
  skipPoll : Bool
  /-- The record of the fatal fault that halted the core (R23, R138). -/
  halted : Option FatalRecord
  /-- The model's own: the level on the IRQ input, which the host drives (R140; log entry 3). -/
  irq : Bool
  /-- The backing store (R27). -/
  mem : Memory
  /-- The model's own: how many external reads the host has answered (R29; log entry 4). -/
  extReads : Nat
  /-- The model's own: the external accesses delivered to the host, newest first (R29; log entry 4). -/
  extLog : List ExtAccess
  /-- RESET_ENTRY and EXT_BUS (R5, R26; log entry 2). -/
  config : Config
deriving DecidableEq, Repr

/-- Why a step ends without a next state. -/
inductive Fault where
  /-- Raised by `step` when the byte at PC is no row of the opcode table (60_exceptions.md R137). Safe: the spec's own fault. -/
  | fatalOpcode (record : FatalRecord)
  /-- Raised by `step` in a halted core: the stuck state of 60_exceptions.md R138. Safe: the spec gives it no step. -/
  | halted (record : FatalRecord)
deriving DecidableEq, Repr

/-- Why the model declines an instruction. No instruction of the opcode table is declined. -/
inductive Refusal where
  /-- Raised by an arm of `exec` whose instruction has no meaning yet: none is left. Safe. -/
  | notModelled (mnemonic : String)
deriving DecidableEq, Repr

/-- P after reset, 0x24: I set, all else clear (R152). -/
def Status.reset : Status := ⟨false, false, true, false, false, false⟩

/-- The machine right after reset (R152, R153) with the default parameters and no image loaded: PC is the word
at the reset vector, whose two bytes are unlisted (log entries 1 and 2). -/
def State.reset : State where
  a := 0x00
  x := 0x00
  y := 0x00
  sp := 0xFD
  pc := unlistedByte.setWidth 16 ||| (unlistedByte.setWidth 16 <<< 8)
  p := Status.reset
  cycles := 0
  nmiPending := false
  iPoll := true
  skipPoll := false
  halted := none
  irq := false
  mem := []
  extReads := 0
  extLog := []
  config := Config.default

end Sys2Proof.Machine
end

