-- ==== Sys2Proof/Machine/Flags.lean ====
section
/-! DEFINITION. Machine/Flags.lean: P as a byte and every flag computation of the core (10_state.md R17 to R22,
42_arith_logic.md, 43_shift_rotate.md). -/

namespace Sys2Proof.Machine

/-- P as a byte (R17): bit 5 reads 1 and bit 4 reads 0 (R18). -/
def Status.toByte (p : Status) : Byte :=
  BitVec.ofNat 8 (p.c.toNat + 2 * p.z.toNat + 4 * p.i.toNat + 8 * p.d.toNat + 32 + 64 * p.v.toNat + 128 * p.n.toNat)

/-- A byte loaded into P: bits 4 and 5 are discarded (R18). -/
def Status.ofByte (v : Byte) : Status :=
  ⟨v.getLsbD 0, v.getLsbD 1, v.getLsbD 2, v.getLsbD 3, v.getLsbD 6, v.getLsbD 7⟩

/-- The byte PHP and BRK push, `P | 0x30` (44_stack.md R110, 46_flags_system.md R134). -/
def Status.pushedByInstr (p : Status) : Byte := p.toByte ||| 0x30

/-- The byte interrupt entry pushes, `(P & 0xEF) | 0x20` (60_exceptions.md R143). -/
def Status.pushedByInterrupt (p : Status) : Byte := (p.toByte &&& 0xEF) ||| 0x20

/-- `SetZN(r)` (R21). -/
def Status.setZN (p : Status) (r : Byte) : Status := { p with z := r == 0, n := r.getLsbD 7 }

/-- A result byte with the carry and overflow of its sum. -/
structure Sum where
  value    : Byte
  carry    : Bool
  overflow : Bool
deriving DecidableEq, Repr

/-- The sum of ADC (42_arith_logic.md R85), binary whatever D holds. -/
def addWithCarry (a m : Byte) (c : Bool) : Sum :=
  let sum := a.toNat + m.toNat + c.toNat
  let res := BitVec.ofNat 8 sum
  ⟨res, decide (sum > 0xFF), (a ^^^ res) &&& (m ^^^ res) &&& 0x80 != 0⟩

/-- The difference of SBC (R86): ADC applied to the complement of M. -/
def subWithBorrow (a m : Byte) (c : Bool) : Sum := addWithCarry a (m ^^^ 0xFF) c

/-- C, V, Z and N as ADC and SBC leave them (R85, R86). -/
def Status.ofSum (p : Status) (s : Sum) : Status := { p with c := s.carry, v := s.overflow }.setZN s.value

/-- C, Z and N of CMP, CPX and CPY (R90, R91, R92). -/
def Status.compare (p : Status) (r m : Byte) : Status :=
  { p with c := decide (m.toNat ≤ r.toNat) }.setZN (r - m)

/-- Z, N and V of BIT (R93). -/
def Status.bitTest (p : Status) (a m : Byte) : Status :=
  { p with z := a &&& m == 0, n := m.getLsbD 7, v := m.getLsbD 6 }

/-- What a read-modify-write instruction makes of its operand. -/
structure Modified where
  value  : Byte
  status : Status
deriving DecidableEq, Repr

/-- A shifted byte with the bit shifted out as C (43_shift_rotate.md). -/
def shifted (value : Byte) (out : Bool) (p : Status) : Modified := ⟨value, { p with c := out }.setZN value⟩

/-- ASL (R100). -/
def shiftLeft (m : Byte) (p : Status) : Modified := shifted (m <<< 1) (m.getLsbD 7) p

/-- LSR (R101). -/
def shiftRight (m : Byte) (p : Status) : Modified := shifted (m >>> 1) (m.getLsbD 0) p

/-- ROL (R102). -/
def rotateLeft (m : Byte) (p : Status) : Modified :=
  shifted ((m <<< 1) ||| BitVec.ofNat 8 p.c.toNat) (m.getLsbD 7) p

/-- ROR (R103). -/
def rotateRight (m : Byte) (p : Status) : Modified :=
  shifted ((m >>> 1) ||| (BitVec.ofNat 8 p.c.toNat <<< 7)) (m.getLsbD 0) p

/-- INC (R94). -/
def increment (m : Byte) (p : Status) : Modified := ⟨m + 1, p.setZN (m + 1)⟩

/-- DEC (R95). -/
def decrement (m : Byte) (p : Status) : Modified := ⟨m - 1, p.setZN (m - 1)⟩

end Sys2Proof.Machine
end

