-- ==== Sys2Proof/Machine/Ops.lean ====
section
/-! DEFINITION. Machine/Ops.lean: the bus and its decoder (20_memory.md), the stack engine (44_stack.md), taking an
interrupt and returning from one (60_exceptions.md, 46_flags_system.md), and the end of an instruction
(30_encoding.md R47, 70_reset_and_hazards.md R159). -/

namespace Sys2Proof.Machine

/-- What an operation that reads the bus gives back: the value, and the state after its reads. -/
structure Read (α : Type) where
  value : α
  state : State

/-- Where the decoder sends an address (20_memory.md R27). -/
inductive Region where
  | ram (index : Nat)
  | ext (addr : Word)
deriving DecidableEq, Repr

/-- `Decode(a)` (R27): the RAM and its mirrors first, everything else falls through. -/
def decodeAddr (a : Word) : Region := if a ≤ 0x1FFF then .ram (a &&& 0x07FF).toNat else .ext a

/-- The buffer index that an address names: RAM modulo 0x0800, external by the raw address (R27, R29). -/
def cellIndex (a : Word) : Nat :=
  match decodeAddr a with
  | .ram i => i
  | .ext a => a.toNat

/-- The stored byte behind an address: no bus access, no side effect. -/
def State.peek (s : State) (a : Word) : Byte := s.mem.read (cellIndex a)

/-- Whether an access to this address goes to the host (R29, EXT_BUS = external). -/
def State.hostAnswers (s : State) (a : Word) : Bool := s.config.extBus == .external && decide (0x1FFF < a)

/-- `ExtRead(a)` (R29). -/
def extRead (a : Word) (s : State) : Read Byte :=
  match s.config.extBus with
  | .flat => ⟨s.mem.read a.toNat, s⟩
  | .external =>
    let v := Config.extAnswer s.extReads a
    ⟨v, { s with extReads := s.extReads + 1, extLog := .read a v :: s.extLog }⟩

/-- `ExtWrite(a, v)` (R29). -/
def extWrite (a : Word) (v : Byte) (s : State) : State :=
  match s.config.extBus with
  | .flat => { s with mem := s.mem.write a.toNat v }
  | .external => { s with extLog := .write a v :: s.extLog }

/-- `MemRead(a, 1)` (R27). -/
def memRead (a : Word) (s : State) : Read Byte :=
  match decodeAddr a with
  | .ram i => ⟨s.mem.read i, s⟩
  | .ext a => extRead a s

/-- `MemWrite(a, 1, v)` (R27). -/
def memWrite (a : Word) (v : Byte) (s : State) : State :=
  match decodeAddr a with
  | .ram i => { s with mem := s.mem.write i v }
  | .ext a => extWrite a v s

/-- Two byte reads, the low byte's address first, as a word (00_scope.md R9). -/
def readWord (lo hi : Word) (s : State) : Read Word :=
  let l := memRead lo s
  let h := memRead hi l.state
  ⟨makeWord l.value h.value, h.state⟩

/-- `Fetch()` (30_encoding.md R46). -/
def fetch (s : State) : Read Byte :=
  let r := memRead s.pc s
  ⟨r.value, { r.state with pc := r.state.pc + 1 }⟩

/-- The stack byte that SP designates (44_stack.md R104). -/
def stackAddr (sp : Byte) : Word := 0x0100 ||| zext16 sp

/-- `Push(v)` (R105). -/
def push (v : Byte) (s : State) : State := { memWrite (stackAddr s.sp) v s with sp := s.sp - 1 }

/-- `Pull()` (R106). -/
def pull (s : State) : Read Byte := memRead (stackAddr (s.sp + 1)) { s with sp := s.sp + 1 }

/-- `PushWord(w)` (R108): high byte first. -/
def pushWord (w : Word) (s : State) : State := push (loByte w) (push (hiByte w) s)

/-- `PullWord()` (R108): low byte first. -/
def pullWord (s : State) : Read Word :=
  let l := pull s
  let h := pull l.state
  ⟨makeWord l.value h.value, h.state⟩

/-- The vectors (60_exceptions.md R144): the address of the low byte. -/
def nmiVector : Word := 0xFFFA
/-- The reset vector (R144). -/
def resetVector : Word := 0xFFFC
/-- The vector of IRQ and BRK (R144). -/
def irqVector : Word := 0xFFFE

/-- TAKING AN EXCEPTION, the sequence BRK, NMI and IRQ share (60_exceptions.md R143, 46_flags_system.md R134):
push PC, push the given status byte, set I, load PC from the vector, and let the handler's first instruction run
before the next poll (R141, R145; for BRK log entry 13). -/
def enterHandler (status : Byte) (vector : Word) (s : State) : State :=
  let pushed := push status (pushWord s.pc s)
  let masked := { pushed with p := { pushed.p with i := true } }
  let target := readWord vector (vector + 1) masked
  { target.state with pc := target.value, skipPoll := true }

/-- RETURNING FROM AN EXCEPTION (46_flags_system.md R135): pull P, then PC. -/
def returnFromHandler (s : State) : State :=
  let v := pull s
  let w := pullWord { v.state with p := Status.ofByte v.value }
  { w.state with pc := w.value }

/-- The two hardware interrupts (60_exceptions.md R136). -/
inductive Interrupt where
  | nmi
  | irq
deriving DecidableEq, Repr

/-- The interrupt a poll takes, if any (60_exceptions.md R141, R142; 30_encoding.md R47). -/
def pollInterrupt (s : State) : Option Interrupt :=
  if s.skipPoll then none
  else if s.nmiPending then some .nmi
  else if s.irq && !s.iPoll then some .irq
  else none

/-- The vector of an interrupt (R143, R144). -/
def Interrupt.vector : Interrupt → Word
  | .nmi => nmiVector
  | .irq => irqVector

/-- `InterruptEntry(kind)` (60_exceptions.md R143). -/
def interruptEntry (kind : Interrupt) (s : State) : State :=
  let t := enterHandler s.p.pushedByInterrupt kind.vector s
  { t with
    nmiPending := if kind = .nmi then false else t.nmiPending
    iPoll := true
    cycles := t.cycles + 7 }

/-- The instructions after which the poll still uses the I of before (60_exceptions.md R141). -/
def delaysPoll (m : Mnemonic) : Bool := m == .CLI || m == .SEI || m == .PLP

/-- The end of an instruction (30_encoding.md R47): i_poll, and the cycle count of 70_reset_and_hazards.md R159.
`iBefore` is P.I before the instruction, `crossed` the resolver's report, `branch` the branch cycles of R116. -/
def retire (d : Descriptor) (iBefore crossed : Bool) (branch : Nat) (s : State) : State :=
  { s with
    iPoll := if delaysPoll d.mnemonic then iBefore else s.p.i
    cycles := s.cycles + (d.baseCycles + (if d.pageCrossCycle && crossed then 1 else 0) + branch) }

/-- The register snapshot of a FatalOpcode (60_exceptions.md R137). -/
def snapshot (s : State) : Snapshot := ⟨s.a, s.x, s.y, s.sp, s.p.toByte, s.cycles⟩

/-- The diagnostic record of an illegal byte met at PC (R137). -/
def fatalRecord (s : State) (opcode : Byte) : FatalRecord := ⟨s.pc, opcode, snapshot s⟩

end Sys2Proof.Machine
end

