-- ==== Sys2Proof/Machine/Operands.lean ====
section
/-! DEFINITION. Machine/Operands.lean: the addressing-mode resolver (40_addressing.md), run after the operand bytes
were fetched (PC is past them), and the operand helpers the instruction rules use (R71). -/

namespace Sys2Proof.Machine

/-- The modes that resolve to an effective address (R60 to R68), with their operand bytes. -/
inductive AddrForm where
  | zp (nn : Byte)
  | zpx (nn : Byte)
  | zpy (nn : Byte)
  | abs (addr : Word)
  | absx (base : Word)
  | absy (base : Word)
  | indx (nn : Byte)
  | indy (nn : Byte)
deriving DecidableEq, Repr

/-- What a read-class instruction can read: an immediate byte (R59) or memory. -/
inductive ReadForm where
  | imm (value : Byte)
  | mem (form : AddrForm)
deriving DecidableEq, Repr

/-- What a shift or rotate can modify: A (R58) or memory. -/
inductive ModifyForm where
  | acc
  | mem (form : AddrForm)
deriving DecidableEq, Repr

/-- What the resolver returns (R56): the effective address, whether a page was crossed, the state after its pointer reads. -/
structure Resolved where
  ea      : Word
  crossed : Bool
  state   : State

/-- An indexed 16-bit address (R64, R65, R68): the sum carries into the high byte and wraps at 0xFFFF. -/
def indexed (base : Word) (index : Byte) (s : State) : Resolved :=
  let ea := base + zext16 index
  ⟨ea, crossesPage base ea, s⟩

/-- A pointer in the zero page: its second byte wraps within it (R67, R68). -/
def zeroPagePointer (p : Byte) (s : State) : Read Word := readWord (zext16 p) (zext16 (p + 1)) s

/-- `Resolve(mode)` for the modes with an effective address (R60 to R65, R67, R68). -/
def resolve (f : AddrForm) (s : State) : Resolved :=
  match f with
  | .zp nn => ⟨zext16 nn, false, s⟩
  | .zpx nn => ⟨zext16 (nn + s.x), false, s⟩
  | .zpy nn => ⟨zext16 (nn + s.y), false, s⟩
  | .abs addr => ⟨addr, false, s⟩
  | .absx base => indexed base s.x s
  | .absy base => indexed base s.y s
  | .indx nn =>
    let p := zeroPagePointer (nn + s.x) s
    ⟨p.value, false, p.state⟩
  | .indy nn =>
    let p := zeroPagePointer nn s
    indexed p.value p.state.y p.state

/-- The indirect mode of JMP (R66): the second pointer byte is read from the page of the first. -/
def resolveIndirect (ptr : Word) (s : State) : Read Word :=
  readWord ptr ((ptr &&& 0xFF00) ||| ((ptr + 1) &&& 0x00FF)) s

/-- The target of a branch (R69): PC is already the address of the next instruction. -/
def branchTarget (disp : Byte) (s : State) : Word := s.pc + sext16 disp

/-- A byte operand: its value, whether a page was crossed, the state after the reads. -/
structure Operand where
  value   : Byte
  crossed : Bool
  state   : State

/-- `ReadOperand` of a read-class instruction (R71). -/
def readOperand (f : ReadForm) (s : State) : Operand :=
  match f with
  | .imm v => ⟨v, false, s⟩
  | .mem form =>
    let r := resolve form s
    let m := memRead r.ea r.state
    ⟨m.value, r.crossed, m.state⟩

/-- An instruction that reads its operand and writes only registers: `act` is its rule. -/
def readClass (d : Descriptor) (f : ReadForm) (act : Byte → State → State) (s : State) : Host.Outcome State Fault Refusal :=
  let o := readOperand f s
  .next (retire d s.p.i o.crossed 0 (act o.value o.state))

/-- An instruction that stores a register (41_load_store_transfer.md R75 to R77): one bus write, no read of the address. -/
def storeClass (d : Descriptor) (f : AddrForm) (value : Byte) (s : State) : Host.Outcome State Fault Refusal :=
  let r := resolve f s
  .next (retire d s.p.i r.crossed 0 (memWrite r.ea value r.state))

/-- A read-modify-write instruction (R71): one read and one write, or A. -/
def modifyClass (d : Descriptor) (f : ModifyForm) (op : Byte → Status → Modified) (s : State) : Host.Outcome State Fault Refusal :=
  match f with
  | .acc =>
    let o := op s.a s.p
    .next (retire d s.p.i false 0 { s with a := o.value, p := o.status })
  | .mem form =>
    let r := resolve form s
    let m := memRead r.ea r.state
    let o := op m.value m.state.p
    .next (retire d s.p.i r.crossed 0 { memWrite r.ea o.value m.state with p := o.status })

/-- An implied instruction (R57): `act` is its rule. -/
def impliedClass (d : Descriptor) (act : State → State) (s : State) : Host.Outcome State Fault Refusal :=
  .next (retire d s.p.i false 0 (act s))

end Sys2Proof.Machine
end

