-- ==== Sys2Proof/Machine/LoadStore.lean ====
section
/-! DEFINITION. Machine/LoadStore.lean: the meaning of loads, stores and register transfers (41_load_store_transfer.md). Each runs after the operand bytes
were fetched. -/

namespace Sys2Proof.Machine

/-- Write A and set Z, N from it (R72, R80, R81). -/
def State.setA (s : State) (v : Byte) : State := { s with a := v, p := s.p.setZN v }

/-- Write X and set Z, N from it (R73, R78, R82). -/
def State.setX (s : State) (v : Byte) : State := { s with x := v, p := s.p.setZN v }

/-- Write Y and set Z, N from it (R74, R79). -/
def State.setY (s : State) (v : Byte) : State := { s with y := v, p := s.p.setZN v }

/-- LDA's rule on its operand (R72). -/
def loadA (m : Byte) (s : State) : State := s.setA m

/-- LDX's rule on its operand (R73). -/
def loadX (m : Byte) (s : State) : State := s.setX m

/-- LDY's rule on its operand (R74). -/
def loadY (m : Byte) (s : State) : State := s.setY m

/-- LDA ($nn,X), 0xA1 (R72; mode 40_addressing.md R67). -/
def execLdaIndx (nn : Byte) (s : State) : Host.Outcome State Fault Refusal :=
  readClass (Instr.ldaIndx nn).descriptor (.mem (.indx nn)) loadA s

/-- LDA $nn, 0xA5 (R72; mode 40_addressing.md R60). -/
def execLdaZp (nn : Byte) (s : State) : Host.Outcome State Fault Refusal :=
  readClass (Instr.ldaZp nn).descriptor (.mem (.zp nn)) loadA s

/-- LDA #$nn, 0xA9 (R72; mode 40_addressing.md R59). -/
def execLdaImm (value : Byte) (s : State) : Host.Outcome State Fault Refusal :=
  readClass (Instr.ldaImm value).descriptor (.imm value) loadA s

/-- LDA $hhll, 0xAD (R72; mode 40_addressing.md R63). -/
def execLdaAbs (addr : Word) (s : State) : Host.Outcome State Fault Refusal :=
  readClass (Instr.ldaAbs addr).descriptor (.mem (.abs addr)) loadA s

/-- LDA ($nn),Y, 0xB1 (R72; mode 40_addressing.md R68). -/
def execLdaIndy (nn : Byte) (s : State) : Host.Outcome State Fault Refusal :=
  readClass (Instr.ldaIndy nn).descriptor (.mem (.indy nn)) loadA s

/-- LDA $nn,X, 0xB5 (R72; mode 40_addressing.md R61). -/
def execLdaZpx (nn : Byte) (s : State) : Host.Outcome State Fault Refusal :=
  readClass (Instr.ldaZpx nn).descriptor (.mem (.zpx nn)) loadA s

/-- LDA $hhll,Y, 0xB9 (R72; mode 40_addressing.md R65). -/
def execLdaAbsy (base : Word) (s : State) : Host.Outcome State Fault Refusal :=
  readClass (Instr.ldaAbsy base).descriptor (.mem (.absy base)) loadA s

/-- LDA $hhll,X, 0xBD (R72; mode 40_addressing.md R64). -/
def execLdaAbsx (base : Word) (s : State) : Host.Outcome State Fault Refusal :=
  readClass (Instr.ldaAbsx base).descriptor (.mem (.absx base)) loadA s

/-- LDX #$nn, 0xA2 (R73; mode 40_addressing.md R59). -/
def execLdxImm (value : Byte) (s : State) : Host.Outcome State Fault Refusal :=
  readClass (Instr.ldxImm value).descriptor (.imm value) loadX s

/-- LDX $nn, 0xA6 (R73; mode 40_addressing.md R60). -/
def execLdxZp (nn : Byte) (s : State) : Host.Outcome State Fault Refusal :=
  readClass (Instr.ldxZp nn).descriptor (.mem (.zp nn)) loadX s

/-- LDX $hhll, 0xAE (R73; mode 40_addressing.md R63). -/
def execLdxAbs (addr : Word) (s : State) : Host.Outcome State Fault Refusal :=
  readClass (Instr.ldxAbs addr).descriptor (.mem (.abs addr)) loadX s

/-- LDX $nn,Y, 0xB6 (R73; mode 40_addressing.md R62). -/
def execLdxZpy (nn : Byte) (s : State) : Host.Outcome State Fault Refusal :=
  readClass (Instr.ldxZpy nn).descriptor (.mem (.zpy nn)) loadX s

/-- LDX $hhll,Y, 0xBE (R73; mode 40_addressing.md R65). -/
def execLdxAbsy (base : Word) (s : State) : Host.Outcome State Fault Refusal :=
  readClass (Instr.ldxAbsy base).descriptor (.mem (.absy base)) loadX s

/-- LDY #$nn, 0xA0 (R74; mode 40_addressing.md R59). -/
def execLdyImm (value : Byte) (s : State) : Host.Outcome State Fault Refusal :=
  readClass (Instr.ldyImm value).descriptor (.imm value) loadY s

/-- LDY $nn, 0xA4 (R74; mode 40_addressing.md R60). -/
def execLdyZp (nn : Byte) (s : State) : Host.Outcome State Fault Refusal :=
  readClass (Instr.ldyZp nn).descriptor (.mem (.zp nn)) loadY s

/-- LDY $hhll, 0xAC (R74; mode 40_addressing.md R63). -/
def execLdyAbs (addr : Word) (s : State) : Host.Outcome State Fault Refusal :=
  readClass (Instr.ldyAbs addr).descriptor (.mem (.abs addr)) loadY s

/-- LDY $nn,X, 0xB4 (R74; mode 40_addressing.md R61). -/
def execLdyZpx (nn : Byte) (s : State) : Host.Outcome State Fault Refusal :=
  readClass (Instr.ldyZpx nn).descriptor (.mem (.zpx nn)) loadY s

/-- LDY $hhll,X, 0xBC (R74; mode 40_addressing.md R64). -/
def execLdyAbsx (base : Word) (s : State) : Host.Outcome State Fault Refusal :=
  readClass (Instr.ldyAbsx base).descriptor (.mem (.absx base)) loadY s

/-- STA ($nn,X), 0x81 (R75; mode 40_addressing.md R67). -/
def execStaIndx (nn : Byte) (s : State) : Host.Outcome State Fault Refusal :=
  storeClass (Instr.staIndx nn).descriptor (.indx nn) s.a s

/-- STA $nn, 0x85 (R75; mode 40_addressing.md R60). -/
def execStaZp (nn : Byte) (s : State) : Host.Outcome State Fault Refusal :=
  storeClass (Instr.staZp nn).descriptor (.zp nn) s.a s

/-- STA $hhll, 0x8D (R75; mode 40_addressing.md R63). -/
def execStaAbs (addr : Word) (s : State) : Host.Outcome State Fault Refusal :=
  storeClass (Instr.staAbs addr).descriptor (.abs addr) s.a s

/-- STA ($nn),Y, 0x91 (R75; mode 40_addressing.md R68). -/
def execStaIndy (nn : Byte) (s : State) : Host.Outcome State Fault Refusal :=
  storeClass (Instr.staIndy nn).descriptor (.indy nn) s.a s

/-- STA $nn,X, 0x95 (R75; mode 40_addressing.md R61). -/
def execStaZpx (nn : Byte) (s : State) : Host.Outcome State Fault Refusal :=
  storeClass (Instr.staZpx nn).descriptor (.zpx nn) s.a s

/-- STA $hhll,Y, 0x99 (R75; mode 40_addressing.md R65). -/
def execStaAbsy (base : Word) (s : State) : Host.Outcome State Fault Refusal :=
  storeClass (Instr.staAbsy base).descriptor (.absy base) s.a s

/-- STA $hhll,X, 0x9D (R75; mode 40_addressing.md R64). -/
def execStaAbsx (base : Word) (s : State) : Host.Outcome State Fault Refusal :=
  storeClass (Instr.staAbsx base).descriptor (.absx base) s.a s

/-- STX $nn, 0x86 (R76; mode 40_addressing.md R60). -/
def execStxZp (nn : Byte) (s : State) : Host.Outcome State Fault Refusal :=
  storeClass (Instr.stxZp nn).descriptor (.zp nn) s.x s

/-- STX $hhll, 0x8E (R76; mode 40_addressing.md R63). -/
def execStxAbs (addr : Word) (s : State) : Host.Outcome State Fault Refusal :=
  storeClass (Instr.stxAbs addr).descriptor (.abs addr) s.x s

/-- STX $nn,Y, 0x96 (R76; mode 40_addressing.md R62). -/
def execStxZpy (nn : Byte) (s : State) : Host.Outcome State Fault Refusal :=
  storeClass (Instr.stxZpy nn).descriptor (.zpy nn) s.x s

/-- STY $nn, 0x84 (R77; mode 40_addressing.md R60). -/
def execStyZp (nn : Byte) (s : State) : Host.Outcome State Fault Refusal :=
  storeClass (Instr.styZp nn).descriptor (.zp nn) s.y s

/-- STY $hhll, 0x8C (R77; mode 40_addressing.md R63). -/
def execStyAbs (addr : Word) (s : State) : Host.Outcome State Fault Refusal :=
  storeClass (Instr.styAbs addr).descriptor (.abs addr) s.y s

/-- STY $nn,X, 0x94 (R77; mode 40_addressing.md R61). -/
def execStyZpx (nn : Byte) (s : State) : Host.Outcome State Fault Refusal :=
  storeClass (Instr.styZpx nn).descriptor (.zpx nn) s.y s

/-- TAX, 0xAA (R78; mode 40_addressing.md R57). -/
def execTax (s : State) : Host.Outcome State Fault Refusal :=
  impliedClass Instr.tax.descriptor (fun s => s.setX s.a) s

/-- TAY, 0xA8 (R79; mode 40_addressing.md R57). -/
def execTay (s : State) : Host.Outcome State Fault Refusal :=
  impliedClass Instr.tay.descriptor (fun s => s.setY s.a) s

/-- TXA, 0x8A (R80; mode 40_addressing.md R57). -/
def execTxa (s : State) : Host.Outcome State Fault Refusal :=
  impliedClass Instr.txa.descriptor (fun s => s.setA s.x) s

/-- TYA, 0x98 (R81; mode 40_addressing.md R57). -/
def execTya (s : State) : Host.Outcome State Fault Refusal :=
  impliedClass Instr.tya.descriptor (fun s => s.setA s.y) s

/-- TSX, 0xBA (R82; mode 40_addressing.md R57). -/
def execTsx (s : State) : Host.Outcome State Fault Refusal :=
  impliedClass Instr.tsx.descriptor (fun s => s.setX s.sp) s

/-- TXS, 0x9A (R83; mode 40_addressing.md R57). -/
def execTxs (s : State) : Host.Outcome State Fault Refusal :=
  impliedClass Instr.txs.descriptor (fun s => { s with sp := s.x }) s

end Sys2Proof.Machine
end

