-- ==== Sys2Proof/Machine/ArithLogic.lean ====
section
/-! DEFINITION. Machine/ArithLogic.lean: the meaning of arithmetic, logic, compare and increment (42_arith_logic.md). Each runs after the operand bytes
were fetched. -/

namespace Sys2Proof.Machine

/-- ADC's rule on its operand (R85). -/
def adcA (m : Byte) (s : State) : State :=
  let r := addWithCarry s.a m s.p.c
  { s with a := r.value, p := s.p.ofSum r }

/-- SBC's rule on its operand (R86). -/
def sbcA (m : Byte) (s : State) : State :=
  let r := subWithBorrow s.a m s.p.c
  { s with a := r.value, p := s.p.ofSum r }

/-- AND's rule on its operand (R87). -/
def andA (m : Byte) (s : State) : State := s.setA (s.a &&& m)

/-- ORA's rule on its operand (R88). -/
def oraA (m : Byte) (s : State) : State := s.setA (s.a ||| m)

/-- EOR's rule on its operand (R89). -/
def eorA (m : Byte) (s : State) : State := s.setA (s.a ^^^ m)

/-- CMP's rule on its operand (R90). -/
def compareA (m : Byte) (s : State) : State := { s with p := s.p.compare s.a m }

/-- CPX's rule on its operand (R91). -/
def compareX (m : Byte) (s : State) : State := { s with p := s.p.compare s.x m }

/-- CPY's rule on its operand (R92). -/
def compareY (m : Byte) (s : State) : State := { s with p := s.p.compare s.y m }

/-- BIT's rule on its operand (R93). -/
def bitA (m : Byte) (s : State) : State := { s with p := s.p.bitTest s.a m }

/-- ADC ($nn,X), 0x61 (R85; mode 40_addressing.md R67). -/
def execAdcIndx (nn : Byte) (s : State) : Host.Outcome State Fault Refusal :=
  readClass (Instr.adcIndx nn).descriptor (.mem (.indx nn)) adcA s

/-- ADC $nn, 0x65 (R85; mode 40_addressing.md R60). -/
def execAdcZp (nn : Byte) (s : State) : Host.Outcome State Fault Refusal :=
  readClass (Instr.adcZp nn).descriptor (.mem (.zp nn)) adcA s

/-- ADC #$nn, 0x69 (R85; mode 40_addressing.md R59). -/
def execAdcImm (value : Byte) (s : State) : Host.Outcome State Fault Refusal :=
  readClass (Instr.adcImm value).descriptor (.imm value) adcA s

/-- ADC $hhll, 0x6D (R85; mode 40_addressing.md R63). -/
def execAdcAbs (addr : Word) (s : State) : Host.Outcome State Fault Refusal :=
  readClass (Instr.adcAbs addr).descriptor (.mem (.abs addr)) adcA s

/-- ADC ($nn),Y, 0x71 (R85; mode 40_addressing.md R68). -/
def execAdcIndy (nn : Byte) (s : State) : Host.Outcome State Fault Refusal :=
  readClass (Instr.adcIndy nn).descriptor (.mem (.indy nn)) adcA s

/-- ADC $nn,X, 0x75 (R85; mode 40_addressing.md R61). -/
def execAdcZpx (nn : Byte) (s : State) : Host.Outcome State Fault Refusal :=
  readClass (Instr.adcZpx nn).descriptor (.mem (.zpx nn)) adcA s

/-- ADC $hhll,Y, 0x79 (R85; mode 40_addressing.md R65). -/
def execAdcAbsy (base : Word) (s : State) : Host.Outcome State Fault Refusal :=
  readClass (Instr.adcAbsy base).descriptor (.mem (.absy base)) adcA s

/-- ADC $hhll,X, 0x7D (R85; mode 40_addressing.md R64). -/
def execAdcAbsx (base : Word) (s : State) : Host.Outcome State Fault Refusal :=
  readClass (Instr.adcAbsx base).descriptor (.mem (.absx base)) adcA s

/-- SBC ($nn,X), 0xE1 (R86; mode 40_addressing.md R67). -/
def execSbcIndx (nn : Byte) (s : State) : Host.Outcome State Fault Refusal :=
  readClass (Instr.sbcIndx nn).descriptor (.mem (.indx nn)) sbcA s

/-- SBC $nn, 0xE5 (R86; mode 40_addressing.md R60). -/
def execSbcZp (nn : Byte) (s : State) : Host.Outcome State Fault Refusal :=
  readClass (Instr.sbcZp nn).descriptor (.mem (.zp nn)) sbcA s

/-- SBC #$nn, 0xE9 (R86; mode 40_addressing.md R59). -/
def execSbcImm (value : Byte) (s : State) : Host.Outcome State Fault Refusal :=
  readClass (Instr.sbcImm value).descriptor (.imm value) sbcA s

/-- SBC $hhll, 0xED (R86; mode 40_addressing.md R63). -/
def execSbcAbs (addr : Word) (s : State) : Host.Outcome State Fault Refusal :=
  readClass (Instr.sbcAbs addr).descriptor (.mem (.abs addr)) sbcA s

/-- SBC ($nn),Y, 0xF1 (R86; mode 40_addressing.md R68). -/
def execSbcIndy (nn : Byte) (s : State) : Host.Outcome State Fault Refusal :=
  readClass (Instr.sbcIndy nn).descriptor (.mem (.indy nn)) sbcA s

/-- SBC $nn,X, 0xF5 (R86; mode 40_addressing.md R61). -/
def execSbcZpx (nn : Byte) (s : State) : Host.Outcome State Fault Refusal :=
  readClass (Instr.sbcZpx nn).descriptor (.mem (.zpx nn)) sbcA s

/-- SBC $hhll,Y, 0xF9 (R86; mode 40_addressing.md R65). -/
def execSbcAbsy (base : Word) (s : State) : Host.Outcome State Fault Refusal :=
  readClass (Instr.sbcAbsy base).descriptor (.mem (.absy base)) sbcA s

/-- SBC $hhll,X, 0xFD (R86; mode 40_addressing.md R64). -/
def execSbcAbsx (base : Word) (s : State) : Host.Outcome State Fault Refusal :=
  readClass (Instr.sbcAbsx base).descriptor (.mem (.absx base)) sbcA s

/-- AND ($nn,X), 0x21 (R87; mode 40_addressing.md R67). -/
def execAndIndx (nn : Byte) (s : State) : Host.Outcome State Fault Refusal :=
  readClass (Instr.andIndx nn).descriptor (.mem (.indx nn)) andA s

/-- AND $nn, 0x25 (R87; mode 40_addressing.md R60). -/
def execAndZp (nn : Byte) (s : State) : Host.Outcome State Fault Refusal :=
  readClass (Instr.andZp nn).descriptor (.mem (.zp nn)) andA s

/-- AND #$nn, 0x29 (R87; mode 40_addressing.md R59). -/
def execAndImm (value : Byte) (s : State) : Host.Outcome State Fault Refusal :=
  readClass (Instr.andImm value).descriptor (.imm value) andA s

/-- AND $hhll, 0x2D (R87; mode 40_addressing.md R63). -/
def execAndAbs (addr : Word) (s : State) : Host.Outcome State Fault Refusal :=
  readClass (Instr.andAbs addr).descriptor (.mem (.abs addr)) andA s

/-- AND ($nn),Y, 0x31 (R87; mode 40_addressing.md R68). -/
def execAndIndy (nn : Byte) (s : State) : Host.Outcome State Fault Refusal :=
  readClass (Instr.andIndy nn).descriptor (.mem (.indy nn)) andA s

/-- AND $nn,X, 0x35 (R87; mode 40_addressing.md R61). -/
def execAndZpx (nn : Byte) (s : State) : Host.Outcome State Fault Refusal :=
  readClass (Instr.andZpx nn).descriptor (.mem (.zpx nn)) andA s

/-- AND $hhll,Y, 0x39 (R87; mode 40_addressing.md R65). -/
def execAndAbsy (base : Word) (s : State) : Host.Outcome State Fault Refusal :=
  readClass (Instr.andAbsy base).descriptor (.mem (.absy base)) andA s

/-- AND $hhll,X, 0x3D (R87; mode 40_addressing.md R64). -/
def execAndAbsx (base : Word) (s : State) : Host.Outcome State Fault Refusal :=
  readClass (Instr.andAbsx base).descriptor (.mem (.absx base)) andA s

/-- ORA ($nn,X), 0x01 (R88; mode 40_addressing.md R67). -/
def execOraIndx (nn : Byte) (s : State) : Host.Outcome State Fault Refusal :=
  readClass (Instr.oraIndx nn).descriptor (.mem (.indx nn)) oraA s

/-- ORA $nn, 0x05 (R88; mode 40_addressing.md R60). -/
def execOraZp (nn : Byte) (s : State) : Host.Outcome State Fault Refusal :=
  readClass (Instr.oraZp nn).descriptor (.mem (.zp nn)) oraA s

/-- ORA #$nn, 0x09 (R88; mode 40_addressing.md R59). -/
def execOraImm (value : Byte) (s : State) : Host.Outcome State Fault Refusal :=
  readClass (Instr.oraImm value).descriptor (.imm value) oraA s

/-- ORA $hhll, 0x0D (R88; mode 40_addressing.md R63). -/
def execOraAbs (addr : Word) (s : State) : Host.Outcome State Fault Refusal :=
  readClass (Instr.oraAbs addr).descriptor (.mem (.abs addr)) oraA s

/-- ORA ($nn),Y, 0x11 (R88; mode 40_addressing.md R68). -/
def execOraIndy (nn : Byte) (s : State) : Host.Outcome State Fault Refusal :=
  readClass (Instr.oraIndy nn).descriptor (.mem (.indy nn)) oraA s

/-- ORA $nn,X, 0x15 (R88; mode 40_addressing.md R61). -/
def execOraZpx (nn : Byte) (s : State) : Host.Outcome State Fault Refusal :=
  readClass (Instr.oraZpx nn).descriptor (.mem (.zpx nn)) oraA s

/-- ORA $hhll,Y, 0x19 (R88; mode 40_addressing.md R65). -/
def execOraAbsy (base : Word) (s : State) : Host.Outcome State Fault Refusal :=
  readClass (Instr.oraAbsy base).descriptor (.mem (.absy base)) oraA s

/-- ORA $hhll,X, 0x1D (R88; mode 40_addressing.md R64). -/
def execOraAbsx (base : Word) (s : State) : Host.Outcome State Fault Refusal :=
  readClass (Instr.oraAbsx base).descriptor (.mem (.absx base)) oraA s

/-- EOR ($nn,X), 0x41 (R89; mode 40_addressing.md R67). -/
def execEorIndx (nn : Byte) (s : State) : Host.Outcome State Fault Refusal :=
  readClass (Instr.eorIndx nn).descriptor (.mem (.indx nn)) eorA s

/-- EOR $nn, 0x45 (R89; mode 40_addressing.md R60). -/
def execEorZp (nn : Byte) (s : State) : Host.Outcome State Fault Refusal :=
  readClass (Instr.eorZp nn).descriptor (.mem (.zp nn)) eorA s

/-- EOR #$nn, 0x49 (R89; mode 40_addressing.md R59). -/
def execEorImm (value : Byte) (s : State) : Host.Outcome State Fault Refusal :=
  readClass (Instr.eorImm value).descriptor (.imm value) eorA s

/-- EOR $hhll, 0x4D (R89; mode 40_addressing.md R63). -/
def execEorAbs (addr : Word) (s : State) : Host.Outcome State Fault Refusal :=
  readClass (Instr.eorAbs addr).descriptor (.mem (.abs addr)) eorA s

/-- EOR ($nn),Y, 0x51 (R89; mode 40_addressing.md R68). -/
def execEorIndy (nn : Byte) (s : State) : Host.Outcome State Fault Refusal :=
  readClass (Instr.eorIndy nn).descriptor (.mem (.indy nn)) eorA s

/-- EOR $nn,X, 0x55 (R89; mode 40_addressing.md R61). -/
def execEorZpx (nn : Byte) (s : State) : Host.Outcome State Fault Refusal :=
  readClass (Instr.eorZpx nn).descriptor (.mem (.zpx nn)) eorA s

/-- EOR $hhll,Y, 0x59 (R89; mode 40_addressing.md R65). -/
def execEorAbsy (base : Word) (s : State) : Host.Outcome State Fault Refusal :=
  readClass (Instr.eorAbsy base).descriptor (.mem (.absy base)) eorA s

/-- EOR $hhll,X, 0x5D (R89; mode 40_addressing.md R64). -/
def execEorAbsx (base : Word) (s : State) : Host.Outcome State Fault Refusal :=
  readClass (Instr.eorAbsx base).descriptor (.mem (.absx base)) eorA s

/-- CMP ($nn,X), 0xC1 (R90; mode 40_addressing.md R67). -/
def execCmpIndx (nn : Byte) (s : State) : Host.Outcome State Fault Refusal :=
  readClass (Instr.cmpIndx nn).descriptor (.mem (.indx nn)) compareA s

/-- CMP $nn, 0xC5 (R90; mode 40_addressing.md R60). -/
def execCmpZp (nn : Byte) (s : State) : Host.Outcome State Fault Refusal :=
  readClass (Instr.cmpZp nn).descriptor (.mem (.zp nn)) compareA s

/-- CMP #$nn, 0xC9 (R90; mode 40_addressing.md R59). -/
def execCmpImm (value : Byte) (s : State) : Host.Outcome State Fault Refusal :=
  readClass (Instr.cmpImm value).descriptor (.imm value) compareA s

/-- CMP $hhll, 0xCD (R90; mode 40_addressing.md R63). -/
def execCmpAbs (addr : Word) (s : State) : Host.Outcome State Fault Refusal :=
  readClass (Instr.cmpAbs addr).descriptor (.mem (.abs addr)) compareA s

/-- CMP ($nn),Y, 0xD1 (R90; mode 40_addressing.md R68). -/
def execCmpIndy (nn : Byte) (s : State) : Host.Outcome State Fault Refusal :=
  readClass (Instr.cmpIndy nn).descriptor (.mem (.indy nn)) compareA s

/-- CMP $nn,X, 0xD5 (R90; mode 40_addressing.md R61). -/
def execCmpZpx (nn : Byte) (s : State) : Host.Outcome State Fault Refusal :=
  readClass (Instr.cmpZpx nn).descriptor (.mem (.zpx nn)) compareA s

/-- CMP $hhll,Y, 0xD9 (R90; mode 40_addressing.md R65). -/
def execCmpAbsy (base : Word) (s : State) : Host.Outcome State Fault Refusal :=
  readClass (Instr.cmpAbsy base).descriptor (.mem (.absy base)) compareA s

/-- CMP $hhll,X, 0xDD (R90; mode 40_addressing.md R64). -/
def execCmpAbsx (base : Word) (s : State) : Host.Outcome State Fault Refusal :=
  readClass (Instr.cmpAbsx base).descriptor (.mem (.absx base)) compareA s

/-- CPX #$nn, 0xE0 (R91; mode 40_addressing.md R59). -/
def execCpxImm (value : Byte) (s : State) : Host.Outcome State Fault Refusal :=
  readClass (Instr.cpxImm value).descriptor (.imm value) compareX s

/-- CPX $nn, 0xE4 (R91; mode 40_addressing.md R60). -/
def execCpxZp (nn : Byte) (s : State) : Host.Outcome State Fault Refusal :=
  readClass (Instr.cpxZp nn).descriptor (.mem (.zp nn)) compareX s

/-- CPX $hhll, 0xEC (R91; mode 40_addressing.md R63). -/
def execCpxAbs (addr : Word) (s : State) : Host.Outcome State Fault Refusal :=
  readClass (Instr.cpxAbs addr).descriptor (.mem (.abs addr)) compareX s

/-- CPY #$nn, 0xC0 (R92; mode 40_addressing.md R59). -/
def execCpyImm (value : Byte) (s : State) : Host.Outcome State Fault Refusal :=
  readClass (Instr.cpyImm value).descriptor (.imm value) compareY s

/-- CPY $nn, 0xC4 (R92; mode 40_addressing.md R60). -/
def execCpyZp (nn : Byte) (s : State) : Host.Outcome State Fault Refusal :=
  readClass (Instr.cpyZp nn).descriptor (.mem (.zp nn)) compareY s

/-- CPY $hhll, 0xCC (R92; mode 40_addressing.md R63). -/
def execCpyAbs (addr : Word) (s : State) : Host.Outcome State Fault Refusal :=
  readClass (Instr.cpyAbs addr).descriptor (.mem (.abs addr)) compareY s

/-- BIT $nn, 0x24 (R93; mode 40_addressing.md R60). -/
def execBitZp (nn : Byte) (s : State) : Host.Outcome State Fault Refusal :=
  readClass (Instr.bitZp nn).descriptor (.mem (.zp nn)) bitA s

/-- BIT $hhll, 0x2C (R93; mode 40_addressing.md R63). -/
def execBitAbs (addr : Word) (s : State) : Host.Outcome State Fault Refusal :=
  readClass (Instr.bitAbs addr).descriptor (.mem (.abs addr)) bitA s

/-- INC $nn, 0xE6 (R94; mode 40_addressing.md R60). -/
def execIncZp (nn : Byte) (s : State) : Host.Outcome State Fault Refusal :=
  modifyClass (Instr.incZp nn).descriptor (.mem (.zp nn)) increment s

/-- INC $hhll, 0xEE (R94; mode 40_addressing.md R63). -/
def execIncAbs (addr : Word) (s : State) : Host.Outcome State Fault Refusal :=
  modifyClass (Instr.incAbs addr).descriptor (.mem (.abs addr)) increment s

/-- INC $nn,X, 0xF6 (R94; mode 40_addressing.md R61). -/
def execIncZpx (nn : Byte) (s : State) : Host.Outcome State Fault Refusal :=
  modifyClass (Instr.incZpx nn).descriptor (.mem (.zpx nn)) increment s

/-- INC $hhll,X, 0xFE (R94; mode 40_addressing.md R64). -/
def execIncAbsx (base : Word) (s : State) : Host.Outcome State Fault Refusal :=
  modifyClass (Instr.incAbsx base).descriptor (.mem (.absx base)) increment s

/-- DEC $nn, 0xC6 (R95; mode 40_addressing.md R60). -/
def execDecZp (nn : Byte) (s : State) : Host.Outcome State Fault Refusal :=
  modifyClass (Instr.decZp nn).descriptor (.mem (.zp nn)) decrement s

/-- DEC $hhll, 0xCE (R95; mode 40_addressing.md R63). -/
def execDecAbs (addr : Word) (s : State) : Host.Outcome State Fault Refusal :=
  modifyClass (Instr.decAbs addr).descriptor (.mem (.abs addr)) decrement s

/-- DEC $nn,X, 0xD6 (R95; mode 40_addressing.md R61). -/
def execDecZpx (nn : Byte) (s : State) : Host.Outcome State Fault Refusal :=
  modifyClass (Instr.decZpx nn).descriptor (.mem (.zpx nn)) decrement s

/-- DEC $hhll,X, 0xDE (R95; mode 40_addressing.md R64). -/
def execDecAbsx (base : Word) (s : State) : Host.Outcome State Fault Refusal :=
  modifyClass (Instr.decAbsx base).descriptor (.mem (.absx base)) decrement s

/-- INX, 0xE8 (R96; mode 40_addressing.md R57). -/
def execInx (s : State) : Host.Outcome State Fault Refusal :=
  impliedClass Instr.inx.descriptor (fun s => s.setX (s.x + 1)) s

/-- INY, 0xC8 (R97; mode 40_addressing.md R57). -/
def execIny (s : State) : Host.Outcome State Fault Refusal :=
  impliedClass Instr.iny.descriptor (fun s => s.setY (s.y + 1)) s

/-- DEX, 0xCA (R98; mode 40_addressing.md R57). -/
def execDex (s : State) : Host.Outcome State Fault Refusal :=
  impliedClass Instr.dex.descriptor (fun s => s.setX (s.x - 1)) s

/-- DEY, 0x88 (R99; mode 40_addressing.md R57). -/
def execDey (s : State) : Host.Outcome State Fault Refusal :=
  impliedClass Instr.dey.descriptor (fun s => s.setY (s.y - 1)) s

end Sys2Proof.Machine
end

