-- ==== Sys2Proof/Machine/Control.lean ====
section
/-! DEFINITION. Machine/Control.lean: the meaning of jumps, subroutine call and return, branches (45_control.md). Each runs after the operand bytes
were fetched. -/

namespace Sys2Proof.Machine

/-- JMP through a pointer (R113, 40_addressing.md R66). -/
def jumpIndirect (ptr : Word) (s : State) : State :=
  let r := resolveIndirect ptr s
  { r.state with pc := r.value }

/-- JSR's rule from its first push on (R114): the low target byte is fetched, PC is at the high one. The pushes come
first, then the high target byte is fetched through the bus, so the instruction's own third byte is not taken from
`target` (log entry 7). -/
def jumpSubroutine (target : Word) (s : State) : State :=
  let hh := fetch (pushWord s.pc s)
  { hh.state with pc := makeWord (loByte target) hh.value }

/-- RTS's rule (R115). -/
def returnFromSubroutine (s : State) : State :=
  let w := pullWord s
  { w.state with pc := w.value + 1 }

/-- `Branch(cond)` (R116), after `Resolve(rel)` (40_addressing.md R69). -/
def branch (d : Descriptor) (disp : Byte) (cond : Bool) (s : State) : Host.Outcome State Fault Refusal :=
  let target := branchTarget disp s
  let crossed := crossesPage s.pc target
  if cond then .next (retire d s.p.i crossed (if crossed then 2 else 1) { s with pc := target })
  else .next (retire d s.p.i crossed 0 s)

/-- JMP $hhll, 0x4C (R113; mode 40_addressing.md R63). -/
def execJmpAbs (target : Word) (s : State) : Host.Outcome State Fault Refusal :=
  impliedClass (Instr.jmpAbs target).descriptor (fun s => { s with pc := target }) s

/-- JMP ($hhll), 0x6C (R113; mode 40_addressing.md R66). -/
def execJmpInd (ptr : Word) (s : State) : Host.Outcome State Fault Refusal :=
  impliedClass (Instr.jmpInd ptr).descriptor (fun s => jumpIndirect ptr s) s

/-- JSR $hhll, 0x20 (R114). -/
def execJsr (target : Word) (s : State) : Host.Outcome State Fault Refusal :=
  impliedClass (Instr.jsr target).descriptor (jumpSubroutine target) s

/-- RTS, 0x60 (R115; mode 40_addressing.md R57). -/
def execRts (s : State) : Host.Outcome State Fault Refusal :=
  impliedClass Instr.rts.descriptor returnFromSubroutine s

/-- BCC label, 0x90 (R117; mode 40_addressing.md R69). -/
def execBcc (disp : Byte) (s : State) : Host.Outcome State Fault Refusal :=
  branch (Instr.bcc disp).descriptor disp (!s.p.c) s

/-- BCS label, 0xB0 (R118; mode 40_addressing.md R69). -/
def execBcs (disp : Byte) (s : State) : Host.Outcome State Fault Refusal :=
  branch (Instr.bcs disp).descriptor disp (s.p.c) s

/-- BEQ label, 0xF0 (R119; mode 40_addressing.md R69). -/
def execBeq (disp : Byte) (s : State) : Host.Outcome State Fault Refusal :=
  branch (Instr.beq disp).descriptor disp (s.p.z) s

/-- BMI label, 0x30 (R120; mode 40_addressing.md R69). -/
def execBmi (disp : Byte) (s : State) : Host.Outcome State Fault Refusal :=
  branch (Instr.bmi disp).descriptor disp (s.p.n) s

/-- BNE label, 0xD0 (R121; mode 40_addressing.md R69). -/
def execBne (disp : Byte) (s : State) : Host.Outcome State Fault Refusal :=
  branch (Instr.bne disp).descriptor disp (!s.p.z) s

/-- BPL label, 0x10 (R122; mode 40_addressing.md R69). -/
def execBpl (disp : Byte) (s : State) : Host.Outcome State Fault Refusal :=
  branch (Instr.bpl disp).descriptor disp (!s.p.n) s

/-- BVC label, 0x50 (R123; mode 40_addressing.md R69). -/
def execBvc (disp : Byte) (s : State) : Host.Outcome State Fault Refusal :=
  branch (Instr.bvc disp).descriptor disp (!s.p.v) s

/-- BVS label, 0x70 (R124; mode 40_addressing.md R69). -/
def execBvs (disp : Byte) (s : State) : Host.Outcome State Fault Refusal :=
  branch (Instr.bvs disp).descriptor disp (s.p.v) s

end Sys2Proof.Machine
end

