-- ==== Sys2Proof/Machine/FlagsSystem.lean ====
section
/-! DEFINITION. Machine/FlagsSystem.lean: the meaning of flag instructions, NOP, BRK and RTI (46_flags_system.md). Each runs after the operand bytes
were fetched. -/

namespace Sys2Proof.Machine

/-- BRK's rule (R134): PC skips the padding byte, then the handler is entered with B set in the pushed P.
`enterHandler` sets skip_poll, so an NMI pending at the boundary after BRK is taken after the handler's first instruction
(60_exceptions.md R145, decision D16; DEDUCED, log entry 13). -/
def softwareBreak (s : State) : State :=
  let skipped := { s with pc := s.pc + 1 }
  enterHandler skipped.p.pushedByInstr irqVector skipped

/-- CLC, 0x18 (R126; mode 40_addressing.md R57). -/
def execClc (s : State) : Host.Outcome State Fault Refusal :=
  impliedClass Instr.clc.descriptor (fun s => { s with p := { s.p with c := false } }) s

/-- CLD, 0xD8 (R127; mode 40_addressing.md R57). -/
def execCld (s : State) : Host.Outcome State Fault Refusal :=
  impliedClass Instr.cld.descriptor (fun s => { s with p := { s.p with d := false } }) s

/-- CLI, 0x58 (R128; mode 40_addressing.md R57). -/
def execCli (s : State) : Host.Outcome State Fault Refusal :=
  impliedClass Instr.cli.descriptor (fun s => { s with p := { s.p with i := false } }) s

/-- CLV, 0xB8 (R129; mode 40_addressing.md R57). -/
def execClv (s : State) : Host.Outcome State Fault Refusal :=
  impliedClass Instr.clv.descriptor (fun s => { s with p := { s.p with v := false } }) s

/-- SEC, 0x38 (R130; mode 40_addressing.md R57). -/
def execSec (s : State) : Host.Outcome State Fault Refusal :=
  impliedClass Instr.sec.descriptor (fun s => { s with p := { s.p with c := true } }) s

/-- SED, 0xF8 (R131; mode 40_addressing.md R57). -/
def execSed (s : State) : Host.Outcome State Fault Refusal :=
  impliedClass Instr.sed.descriptor (fun s => { s with p := { s.p with d := true } }) s

/-- SEI, 0x78 (R132; mode 40_addressing.md R57). -/
def execSei (s : State) : Host.Outcome State Fault Refusal :=
  impliedClass Instr.sei.descriptor (fun s => { s with p := { s.p with i := true } }) s

/-- NOP, 0xEA (R133; mode 40_addressing.md R57). -/
def execNop (s : State) : Host.Outcome State Fault Refusal :=
  impliedClass Instr.nop.descriptor (fun s => s) s

/-- BRK, 0x00 (R134; mode 40_addressing.md R57). -/
def execBrk (s : State) : Host.Outcome State Fault Refusal :=
  impliedClass Instr.brk.descriptor softwareBreak s

/-- RTI, 0x40 (R135; mode 40_addressing.md R57). -/
def execRti (s : State) : Host.Outcome State Fault Refusal :=
  impliedClass Instr.rti.descriptor returnFromHandler s

end Sys2Proof.Machine
end

