-- ==== Sys2Proof/Machine/ShiftRotate.lean ====
section
/-! DEFINITION. Machine/ShiftRotate.lean: the meaning of shifts and rotates (43_shift_rotate.md). Each runs after the operand bytes
were fetched. -/

namespace Sys2Proof.Machine

/-- ASL $nn, 0x06 (R100; mode 40_addressing.md R60). -/
def execAslZp (nn : Byte) (s : State) : Host.Outcome State Fault Refusal :=
  modifyClass (Instr.aslZp nn).descriptor (.mem (.zp nn)) shiftLeft s

/-- ASL A, 0x0A (R100; mode 40_addressing.md R58). -/
def execAslAcc (s : State) : Host.Outcome State Fault Refusal :=
  modifyClass Instr.aslAcc.descriptor .acc shiftLeft s

/-- ASL $hhll, 0x0E (R100; mode 40_addressing.md R63). -/
def execAslAbs (addr : Word) (s : State) : Host.Outcome State Fault Refusal :=
  modifyClass (Instr.aslAbs addr).descriptor (.mem (.abs addr)) shiftLeft s

/-- ASL $nn,X, 0x16 (R100; mode 40_addressing.md R61). -/
def execAslZpx (nn : Byte) (s : State) : Host.Outcome State Fault Refusal :=
  modifyClass (Instr.aslZpx nn).descriptor (.mem (.zpx nn)) shiftLeft s

/-- ASL $hhll,X, 0x1E (R100; mode 40_addressing.md R64). -/
def execAslAbsx (base : Word) (s : State) : Host.Outcome State Fault Refusal :=
  modifyClass (Instr.aslAbsx base).descriptor (.mem (.absx base)) shiftLeft s

/-- LSR $nn, 0x46 (R101; mode 40_addressing.md R60). -/
def execLsrZp (nn : Byte) (s : State) : Host.Outcome State Fault Refusal :=
  modifyClass (Instr.lsrZp nn).descriptor (.mem (.zp nn)) shiftRight s

/-- LSR A, 0x4A (R101; mode 40_addressing.md R58). -/
def execLsrAcc (s : State) : Host.Outcome State Fault Refusal :=
  modifyClass Instr.lsrAcc.descriptor .acc shiftRight s

/-- LSR $hhll, 0x4E (R101; mode 40_addressing.md R63). -/
def execLsrAbs (addr : Word) (s : State) : Host.Outcome State Fault Refusal :=
  modifyClass (Instr.lsrAbs addr).descriptor (.mem (.abs addr)) shiftRight s

/-- LSR $nn,X, 0x56 (R101; mode 40_addressing.md R61). -/
def execLsrZpx (nn : Byte) (s : State) : Host.Outcome State Fault Refusal :=
  modifyClass (Instr.lsrZpx nn).descriptor (.mem (.zpx nn)) shiftRight s

/-- LSR $hhll,X, 0x5E (R101; mode 40_addressing.md R64). -/
def execLsrAbsx (base : Word) (s : State) : Host.Outcome State Fault Refusal :=
  modifyClass (Instr.lsrAbsx base).descriptor (.mem (.absx base)) shiftRight s

/-- ROL $nn, 0x26 (R102; mode 40_addressing.md R60). -/
def execRolZp (nn : Byte) (s : State) : Host.Outcome State Fault Refusal :=
  modifyClass (Instr.rolZp nn).descriptor (.mem (.zp nn)) rotateLeft s

/-- ROL A, 0x2A (R102; mode 40_addressing.md R58). -/
def execRolAcc (s : State) : Host.Outcome State Fault Refusal :=
  modifyClass Instr.rolAcc.descriptor .acc rotateLeft s

/-- ROL $hhll, 0x2E (R102; mode 40_addressing.md R63). -/
def execRolAbs (addr : Word) (s : State) : Host.Outcome State Fault Refusal :=
  modifyClass (Instr.rolAbs addr).descriptor (.mem (.abs addr)) rotateLeft s

/-- ROL $nn,X, 0x36 (R102; mode 40_addressing.md R61). -/
def execRolZpx (nn : Byte) (s : State) : Host.Outcome State Fault Refusal :=
  modifyClass (Instr.rolZpx nn).descriptor (.mem (.zpx nn)) rotateLeft s

/-- ROL $hhll,X, 0x3E (R102; mode 40_addressing.md R64). -/
def execRolAbsx (base : Word) (s : State) : Host.Outcome State Fault Refusal :=
  modifyClass (Instr.rolAbsx base).descriptor (.mem (.absx base)) rotateLeft s

/-- ROR $nn, 0x66 (R103; mode 40_addressing.md R60). -/
def execRorZp (nn : Byte) (s : State) : Host.Outcome State Fault Refusal :=
  modifyClass (Instr.rorZp nn).descriptor (.mem (.zp nn)) rotateRight s

/-- ROR A, 0x6A (R103; mode 40_addressing.md R58). -/
def execRorAcc (s : State) : Host.Outcome State Fault Refusal :=
  modifyClass Instr.rorAcc.descriptor .acc rotateRight s

/-- ROR $hhll, 0x6E (R103; mode 40_addressing.md R63). -/
def execRorAbs (addr : Word) (s : State) : Host.Outcome State Fault Refusal :=
  modifyClass (Instr.rorAbs addr).descriptor (.mem (.abs addr)) rotateRight s

/-- ROR $nn,X, 0x76 (R103; mode 40_addressing.md R61). -/
def execRorZpx (nn : Byte) (s : State) : Host.Outcome State Fault Refusal :=
  modifyClass (Instr.rorZpx nn).descriptor (.mem (.zpx nn)) rotateRight s

/-- ROR $hhll,X, 0x7E (R103; mode 40_addressing.md R64). -/
def execRorAbsx (base : Word) (s : State) : Host.Outcome State Fault Refusal :=
  modifyClass (Instr.rorAbsx base).descriptor (.mem (.absx base)) rotateRight s

end Sys2Proof.Machine
end

