-- ==== Sys2Proof/Machine/StackInstr.lean ====
section
/-! DEFINITION. Machine/StackInstr.lean: the meaning of the stack instructions (44_stack.md). Each runs after the operand bytes
were fetched. -/

namespace Sys2Proof.Machine

/-- PLA's rule (R111). -/
def pullA (s : State) : State :=
  let v := pull s
  v.state.setA v.value

/-- PLP's rule (R112). -/
def pullP (s : State) : State :=
  let v := pull s
  { v.state with p := Status.ofByte v.value }

/-- PHA, 0x48 (R109; mode 40_addressing.md R57). -/
def execPha (s : State) : Host.Outcome State Fault Refusal :=
  impliedClass Instr.pha.descriptor (fun s => push s.a s) s

/-- PHP, 0x08 (R110; mode 40_addressing.md R57). -/
def execPhp (s : State) : Host.Outcome State Fault Refusal :=
  impliedClass Instr.php.descriptor (fun s => push s.p.pushedByInstr s) s

/-- PLA, 0x68 (R111; mode 40_addressing.md R57). -/
def execPla (s : State) : Host.Outcome State Fault Refusal :=
  impliedClass Instr.pla.descriptor pullA s

/-- PLP, 0x28 (R112; mode 40_addressing.md R57). -/
def execPlp (s : State) : Host.Outcome State Fault Refusal :=
  impliedClass Instr.plp.descriptor pullP s

end Sys2Proof.Machine
end

