-- ==== Sys2Proof/Machine/Dispatch.lean ====
section
/-! DEFINITION. Machine/Dispatch.lean: one arm per instruction, each one call of its meaning. -/

namespace Sys2Proof.Machine

def exec (i : Instr) (s : State) : Host.Outcome State Fault Refusal :=
  match i with
  | .ldaIndx nn => Sys2Proof.Machine.execLdaIndx nn s
  | .ldaZp nn => Sys2Proof.Machine.execLdaZp nn s
  | .ldaImm value => Sys2Proof.Machine.execLdaImm value s
  | .ldaAbs addr => Sys2Proof.Machine.execLdaAbs addr s
  | .ldaIndy nn => Sys2Proof.Machine.execLdaIndy nn s
  | .ldaZpx nn => Sys2Proof.Machine.execLdaZpx nn s
  | .ldaAbsy base => Sys2Proof.Machine.execLdaAbsy base s
  | .ldaAbsx base => Sys2Proof.Machine.execLdaAbsx base s
  | .ldxImm value => Sys2Proof.Machine.execLdxImm value s
  | .ldxZp nn => Sys2Proof.Machine.execLdxZp nn s
  | .ldxAbs addr => Sys2Proof.Machine.execLdxAbs addr s
  | .ldxZpy nn => Sys2Proof.Machine.execLdxZpy nn s
  | .ldxAbsy base => Sys2Proof.Machine.execLdxAbsy base s
  | .ldyImm value => Sys2Proof.Machine.execLdyImm value s
  | .ldyZp nn => Sys2Proof.Machine.execLdyZp nn s
  | .ldyAbs addr => Sys2Proof.Machine.execLdyAbs addr s
  | .ldyZpx nn => Sys2Proof.Machine.execLdyZpx nn s
  | .ldyAbsx base => Sys2Proof.Machine.execLdyAbsx base s
  | .staIndx nn => Sys2Proof.Machine.execStaIndx nn s
  | .staZp nn => Sys2Proof.Machine.execStaZp nn s
  | .staAbs addr => Sys2Proof.Machine.execStaAbs addr s
  | .staIndy nn => Sys2Proof.Machine.execStaIndy nn s
  | .staZpx nn => Sys2Proof.Machine.execStaZpx nn s
  | .staAbsy base => Sys2Proof.Machine.execStaAbsy base s
  | .staAbsx base => Sys2Proof.Machine.execStaAbsx base s
  | .stxZp nn => Sys2Proof.Machine.execStxZp nn s
  | .stxAbs addr => Sys2Proof.Machine.execStxAbs addr s
  | .stxZpy nn => Sys2Proof.Machine.execStxZpy nn s
  | .styZp nn => Sys2Proof.Machine.execStyZp nn s
  | .styAbs addr => Sys2Proof.Machine.execStyAbs addr s
  | .styZpx nn => Sys2Proof.Machine.execStyZpx nn s
  | .tax => Sys2Proof.Machine.execTax s
  | .tay => Sys2Proof.Machine.execTay s
  | .txa => Sys2Proof.Machine.execTxa s
  | .tya => Sys2Proof.Machine.execTya s
  | .tsx => Sys2Proof.Machine.execTsx s
  | .txs => Sys2Proof.Machine.execTxs s
  | .adcIndx nn => Sys2Proof.Machine.execAdcIndx nn s
  | .adcZp nn => Sys2Proof.Machine.execAdcZp nn s
  | .adcImm value => Sys2Proof.Machine.execAdcImm value s
  | .adcAbs addr => Sys2Proof.Machine.execAdcAbs addr s
  | .adcIndy nn => Sys2Proof.Machine.execAdcIndy nn s
  | .adcZpx nn => Sys2Proof.Machine.execAdcZpx nn s
  | .adcAbsy base => Sys2Proof.Machine.execAdcAbsy base s
  | .adcAbsx base => Sys2Proof.Machine.execAdcAbsx base s
  | .sbcIndx nn => Sys2Proof.Machine.execSbcIndx nn s
  | .sbcZp nn => Sys2Proof.Machine.execSbcZp nn s
  | .sbcImm value => Sys2Proof.Machine.execSbcImm value s
  | .sbcAbs addr => Sys2Proof.Machine.execSbcAbs addr s
  | .sbcIndy nn => Sys2Proof.Machine.execSbcIndy nn s
  | .sbcZpx nn => Sys2Proof.Machine.execSbcZpx nn s
  | .sbcAbsy base => Sys2Proof.Machine.execSbcAbsy base s
  | .sbcAbsx base => Sys2Proof.Machine.execSbcAbsx base s
  | .andIndx nn => Sys2Proof.Machine.execAndIndx nn s
  | .andZp nn => Sys2Proof.Machine.execAndZp nn s
  | .andImm value => Sys2Proof.Machine.execAndImm value s
  | .andAbs addr => Sys2Proof.Machine.execAndAbs addr s
  | .andIndy nn => Sys2Proof.Machine.execAndIndy nn s
  | .andZpx nn => Sys2Proof.Machine.execAndZpx nn s
  | .andAbsy base => Sys2Proof.Machine.execAndAbsy base s
  | .andAbsx base => Sys2Proof.Machine.execAndAbsx base s
  | .oraIndx nn => Sys2Proof.Machine.execOraIndx nn s
  | .oraZp nn => Sys2Proof.Machine.execOraZp nn s
  | .oraImm value => Sys2Proof.Machine.execOraImm value s
  | .oraAbs addr => Sys2Proof.Machine.execOraAbs addr s
  | .oraIndy nn => Sys2Proof.Machine.execOraIndy nn s
  | .oraZpx nn => Sys2Proof.Machine.execOraZpx nn s
  | .oraAbsy base => Sys2Proof.Machine.execOraAbsy base s
  | .oraAbsx base => Sys2Proof.Machine.execOraAbsx base s
  | .eorIndx nn => Sys2Proof.Machine.execEorIndx nn s
  | .eorZp nn => Sys2Proof.Machine.execEorZp nn s
  | .eorImm value => Sys2Proof.Machine.execEorImm value s
  | .eorAbs addr => Sys2Proof.Machine.execEorAbs addr s
  | .eorIndy nn => Sys2Proof.Machine.execEorIndy nn s
  | .eorZpx nn => Sys2Proof.Machine.execEorZpx nn s
  | .eorAbsy base => Sys2Proof.Machine.execEorAbsy base s
  | .eorAbsx base => Sys2Proof.Machine.execEorAbsx base s
  | .cmpIndx nn => Sys2Proof.Machine.execCmpIndx nn s
  | .cmpZp nn => Sys2Proof.Machine.execCmpZp nn s
  | .cmpImm value => Sys2Proof.Machine.execCmpImm value s
  | .cmpAbs addr => Sys2Proof.Machine.execCmpAbs addr s
  | .cmpIndy nn => Sys2Proof.Machine.execCmpIndy nn s
  | .cmpZpx nn => Sys2Proof.Machine.execCmpZpx nn s
  | .cmpAbsy base => Sys2Proof.Machine.execCmpAbsy base s
  | .cmpAbsx base => Sys2Proof.Machine.execCmpAbsx base s
  | .cpxImm value => Sys2Proof.Machine.execCpxImm value s
  | .cpxZp nn => Sys2Proof.Machine.execCpxZp nn s
  | .cpxAbs addr => Sys2Proof.Machine.execCpxAbs addr s
  | .cpyImm value => Sys2Proof.Machine.execCpyImm value s
  | .cpyZp nn => Sys2Proof.Machine.execCpyZp nn s
  | .cpyAbs addr => Sys2Proof.Machine.execCpyAbs addr s
  | .bitZp nn => Sys2Proof.Machine.execBitZp nn s
  | .bitAbs addr => Sys2Proof.Machine.execBitAbs addr s
  | .incZp nn => Sys2Proof.Machine.execIncZp nn s
  | .incAbs addr => Sys2Proof.Machine.execIncAbs addr s
  | .incZpx nn => Sys2Proof.Machine.execIncZpx nn s
  | .incAbsx base => Sys2Proof.Machine.execIncAbsx base s
  | .decZp nn => Sys2Proof.Machine.execDecZp nn s
  | .decAbs addr => Sys2Proof.Machine.execDecAbs addr s
  | .decZpx nn => Sys2Proof.Machine.execDecZpx nn s
  | .decAbsx base => Sys2Proof.Machine.execDecAbsx base s
  | .inx => Sys2Proof.Machine.execInx s
  | .iny => Sys2Proof.Machine.execIny s
  | .dex => Sys2Proof.Machine.execDex s
  | .dey => Sys2Proof.Machine.execDey s
  | .aslZp nn => Sys2Proof.Machine.execAslZp nn s
  | .aslAcc => Sys2Proof.Machine.execAslAcc s
  | .aslAbs addr => Sys2Proof.Machine.execAslAbs addr s
  | .aslZpx nn => Sys2Proof.Machine.execAslZpx nn s
  | .aslAbsx base => Sys2Proof.Machine.execAslAbsx base s
  | .lsrZp nn => Sys2Proof.Machine.execLsrZp nn s
  | .lsrAcc => Sys2Proof.Machine.execLsrAcc s
  | .lsrAbs addr => Sys2Proof.Machine.execLsrAbs addr s
  | .lsrZpx nn => Sys2Proof.Machine.execLsrZpx nn s
  | .lsrAbsx base => Sys2Proof.Machine.execLsrAbsx base s
  | .rolZp nn => Sys2Proof.Machine.execRolZp nn s
  | .rolAcc => Sys2Proof.Machine.execRolAcc s
  | .rolAbs addr => Sys2Proof.Machine.execRolAbs addr s
  | .rolZpx nn => Sys2Proof.Machine.execRolZpx nn s
  | .rolAbsx base => Sys2Proof.Machine.execRolAbsx base s
  | .rorZp nn => Sys2Proof.Machine.execRorZp nn s
  | .rorAcc => Sys2Proof.Machine.execRorAcc s
  | .rorAbs addr => Sys2Proof.Machine.execRorAbs addr s
  | .rorZpx nn => Sys2Proof.Machine.execRorZpx nn s
  | .rorAbsx base => Sys2Proof.Machine.execRorAbsx base s
  | .pha => Sys2Proof.Machine.execPha s
  | .php => Sys2Proof.Machine.execPhp s
  | .pla => Sys2Proof.Machine.execPla s
  | .plp => Sys2Proof.Machine.execPlp s
  | .jmpAbs target => Sys2Proof.Machine.execJmpAbs target s
  | .jmpInd ptr => Sys2Proof.Machine.execJmpInd ptr s
  | .jsr target => Sys2Proof.Machine.execJsr target s
  | .rts => Sys2Proof.Machine.execRts s
  | .bcc disp => Sys2Proof.Machine.execBcc disp s
  | .bcs disp => Sys2Proof.Machine.execBcs disp s
  | .beq disp => Sys2Proof.Machine.execBeq disp s
  | .bmi disp => Sys2Proof.Machine.execBmi disp s
  | .bne disp => Sys2Proof.Machine.execBne disp s
  | .bpl disp => Sys2Proof.Machine.execBpl disp s
  | .bvc disp => Sys2Proof.Machine.execBvc disp s
  | .bvs disp => Sys2Proof.Machine.execBvs disp s
  | .clc => Sys2Proof.Machine.execClc s
  | .cld => Sys2Proof.Machine.execCld s
  | .cli => Sys2Proof.Machine.execCli s
  | .clv => Sys2Proof.Machine.execClv s
  | .sec => Sys2Proof.Machine.execSec s
  | .sed => Sys2Proof.Machine.execSed s
  | .sei => Sys2Proof.Machine.execSei s
  | .nop => Sys2Proof.Machine.execNop s
  | .brk => Sys2Proof.Machine.execBrk s
  | .rti => Sys2Proof.Machine.execRti s

end Sys2Proof.Machine
end

