-- ==== Sys2Proof/Machine/Fetch.lean ====
section
/-! DEFINITION. Machine/Fetch.lean: fetching an instruction's bytes at PC (30_encoding.md R46, R47), and placing an
instruction's bytes where the next step fetches them. -/

namespace Sys2Proof.Machine

/-- The opcode of JSR, the one instruction that does not fetch all its bytes before it acts (45_control.md R114). -/
def jsrOpcode : Byte := 0x20

/-- The operand bytes of an opcode in memory order, fetched at PC. The third byte of JSR is only looked at: JSR's
meaning fetches it after its pushes (log entry 7). -/
def fetchOperands (opcode : Byte) (s : State) : Read (List Byte) :=
  match (opcodeForm opcode).map Form.operandCount with
  | some 1 =>
    let nn := fetch s
    ⟨[nn.value], nn.state⟩
  | some 2 =>
    let ll := fetch s
    if opcode = jsrOpcode then ⟨[ll.value, ll.state.peek ll.state.pc], ll.state⟩
    else
      let hh := fetch ll.state
      ⟨[ll.value, hh.value], hh.state⟩
  | _ => ⟨[], s⟩

/-- What a fetch at PC finds. -/
inductive Fetched where
  /-- The opcode byte is no row of the table (30_encoding.md R49). -/
  | illegal (opcode : Byte)
  /-- An instruction, and the state after its bytes were fetched. -/
  | instr (i : Instr) (s : State)

/-- The opcode fetch, the operand fetches and the decoding of a step (R47). -/
def fetchInstr (s : State) : Fetched :=
  let op := fetch s
  let operands := fetchOperands op.value op.state
  match decode (op.value :: operands.value) with
  | .ok (i, _) => .instr i operands.state
  | .error _ => .illegal op.value

/-- Store bytes in the backing store at consecutive addresses, wrapping at 0xFFFF. -/
def pokeBytes (a : Word) : List Byte → State → State
  | [], s => s
  | b :: rest, s => pokeBytes (a + 1) rest { s with mem := s.mem.write (cellIndex a) b }

/-- Make the next step fetch at PC from the backing store: not halted, no interrupt taken first, and no host
answering the fetch (log entry 8). Each field changes only where it would stand in the fetch's way. -/
def readyToFetch (s : State) : State :=
  { s with
    halted := none
    skipPoll := s.skipPoll || (pollInterrupt s).isSome
    config := if s.hostAnswers s.pc || s.hostAnswers (s.pc + 1) || s.hostAnswers (s.pc + 2)
      then { s.config with extBus := .flat } else s.config }

end Sys2Proof.Machine
end

