-- ==== Sys2Proof/Machine/Step.lean ====
section
/-! DEFINITION. Machine/Step.lean: one step of the core (30_encoding.md R47). -/

namespace Sys2Proof.Machine

/-- `Step(s, irq)` (R47) with the IRQ level in `s.irq`: nothing in a halted core, else the interrupt the poll takes,
else one instruction. -/
def step (s : State) : Host.Outcome State Fault Refusal :=
  match s.halted with
  | some record => .fault (.halted record)
  | none =>
    match pollInterrupt s with
    | some kind => .next (interruptEntry kind s)
    | none =>
      match fetchInstr { s with skipPoll := false } with
      | .illegal opcode => .fault (.fatalOpcode (fatalRecord s opcode))
      | .instr i fetched => exec i fetched

/-- `s` with an instruction's bytes stored where the next step fetches them (log entry 8). -/
def State.withFetchWord (s : State) (nbits w : Nat) : State :=
  pokeBytes s.pc (tableBytes nbits w) (readyToFetch s)

end Sys2Proof.Machine
end

