-- ==== Sys2Proof/Machine/HostPort.lean ====
section
/-! DEFINITION. Machine/HostPort.lean: what the host can do to the core between steps (60_exceptions.md R151) and
what stands after a step that faulted (R138). -/

namespace Sys2Proof.Machine

/-- `NMI()` (60_exceptions.md R139). -/
def nmiRequest (s : State) : State := { s with nmiPending := true }

/-- The host drives the IRQ line (R140). -/
def setIrq (level : Bool) (s : State) : State := { s with irq := level }

/-- The entry point (70_reset_and_hazards.md R153), with the bus reads it takes. -/
def entryPoint (s : State) : Read Word :=
  match s.config.resetEntry with
  | .vector => readWord resetVector (resetVector + 1) s
  | .fixed e => ⟨e, s⟩

/-- `reset()` (R152): every register and hidden bit at its reset value, memory unchanged (R154). The IRQ line, the
host's deliveries and the configuration are not the core's and stay (log entry 9). -/
def hostReset (s : State) : State :=
  let e := entryPoint s
  { e.state with
    a := 0x00, x := 0x00, y := 0x00, sp := 0xFD, pc := e.value, p := Status.reset, cycles := 0
    nmiPending := false, iPoll := true, skipPoll := false, halted := none }

/-- The host writes one byte of the backing store (20_memory.md R42); an index outside it names no byte. -/
def poke (index : Nat) (v : Byte) (s : State) : State :=
  if index < storeSize then { s with mem := s.mem.write index v } else s

/-- Power-on (70_reset_and_hazards.md R155): the construction of the state with INIT_MEM = `image` (20_memory.md R41),
followed by reset. What stands in the registers before the reset is seen by no step. -/
def powerOn (config : Config) (image : Memory) : State :=
  hostReset { State.reset with config := config, mem := image }

/-- The halted core (60_exceptions.md R138): registers, flags, memory and `cycles` are as before, the opcode read was the one
bus access (R137), and skip_poll was cleared before it (30_encoding.md R47; log entry 6). -/
def haltWith (record : FatalRecord) (s : State) : State :=
  { (memRead s.pc s).state with skipPoll := false, halted := some record }

/-- The state that stands after one step, whatever its outcome (R138; log entry 6). -/
def afterStep (s : State) : State :=
  match step s with
  | .next t => t
  | .fault (.fatalOpcode record) => haltWith record s
  | .fault (.halted _) => s
  | .refused _ => s

/-- What can happen to the core: its own step, and the host's actions between steps (R151). -/
inductive Event where
  | step
  | nmi
  | irq (level : Bool)
  | reset
  | poke (index : Nat) (value : Byte)
deriving DecidableEq, Repr

/-- The state after one event. -/
def Event.apply : Event → State → State
  | .step, s => afterStep s
  | .nmi, s => nmiRequest s
  | .irq level, s => setIrq level s
  | .reset, s => hostReset s
  | .poke index v, s => Machine.poke index v s

/-- The state after a session's events, in order. -/
def runEvents : List Event → State → State
  | [], s => s
  | e :: rest, s => runEvents rest (e.apply s)

end Sys2Proof.Machine
end

