-- ==== Sys2Proof/Safety.lean ====
section
/-! DEFINITION. Safety.lean: what a safe run is. A halted core is never the normal end of a run (60_exceptions.md R138). -/

namespace Sys2Proof

/-- `k` steps from `s` meet no fault. -/
def SafeFor (k : Nat) (s : Machine.State) : Prop := ∃ t, core.run k s = .next t

/-- No number of steps from `s` meets a fault. -/
def Safe (s : Machine.State) : Prop := ∀ k, SafeFor k s

/-- How many deliveries of a log are reads. -/
def Machine.readsIn : List Machine.ExtAccess → Nat
  | [] => 0
  | .read _ _ :: rest => Machine.readsIn rest + 1
  | .write _ _ :: rest => Machine.readsIn rest

/-- What every state of a session is: the backing store canonical, the poll masked in the step after an interrupt entry
(60_exceptions.md R141, R143), and every answered external read delivered to the host (20_memory.md R29). -/
structure Machine.State.Inv (s : Machine.State) : Prop where
  memCanonical     : s.mem.wf = true
  maskedAfterEntry : s.skipPoll = true → s.iPoll = true ∧ s.p.i = true
  readsDelivered   : Machine.readsIn s.extLog = s.extReads

end Sys2Proof
end

