-- ==== Sys2Proof/Certificates/Slice0/Obligations.lean ====
section
/-! DEFINITION. Certificates/Slice0/Obligations.lean: the statements for the provers. The words they share come first;
each is written from the spec's rules and not from the meanings in Machine/. -/

namespace Sys2Proof.Claims

open Machine

/-- The Encoding lines of R72 to R135: a mnemonic's opcodes and their modes. -/
def rowsOf : Mnemonic → List (Nat × Mode)
  | .LDA => [(0xA9, .imm), (0xA5, .zp), (0xB5, .zpx), (0xAD, .abs), (0xBD, .absx), (0xB9, .absy), (0xA1, .indx), (0xB1, .indy)]
  | .LDX => [(0xA2, .imm), (0xA6, .zp), (0xB6, .zpy), (0xAE, .abs), (0xBE, .absy)]
  | .LDY => [(0xA0, .imm), (0xA4, .zp), (0xB4, .zpx), (0xAC, .abs), (0xBC, .absx)]
  | .STA => [(0x85, .zp), (0x95, .zpx), (0x8D, .abs), (0x9D, .absx), (0x99, .absy), (0x81, .indx), (0x91, .indy)]
  | .STX => [(0x86, .zp), (0x96, .zpy), (0x8E, .abs)]
  | .STY => [(0x84, .zp), (0x94, .zpx), (0x8C, .abs)]
  | .TAX => [(0xAA, .imp)]
  | .TAY => [(0xA8, .imp)]
  | .TXA => [(0x8A, .imp)]
  | .TYA => [(0x98, .imp)]
  | .TSX => [(0xBA, .imp)]
  | .TXS => [(0x9A, .imp)]
  | .ADC => [(0x69, .imm), (0x65, .zp), (0x75, .zpx), (0x6D, .abs), (0x7D, .absx), (0x79, .absy), (0x61, .indx), (0x71, .indy)]
  | .SBC => [(0xE9, .imm), (0xE5, .zp), (0xF5, .zpx), (0xED, .abs), (0xFD, .absx), (0xF9, .absy), (0xE1, .indx), (0xF1, .indy)]
  | .AND => [(0x29, .imm), (0x25, .zp), (0x35, .zpx), (0x2D, .abs), (0x3D, .absx), (0x39, .absy), (0x21, .indx), (0x31, .indy)]
  | .ORA => [(0x09, .imm), (0x05, .zp), (0x15, .zpx), (0x0D, .abs), (0x1D, .absx), (0x19, .absy), (0x01, .indx), (0x11, .indy)]
  | .EOR => [(0x49, .imm), (0x45, .zp), (0x55, .zpx), (0x4D, .abs), (0x5D, .absx), (0x59, .absy), (0x41, .indx), (0x51, .indy)]
  | .CMP => [(0xC9, .imm), (0xC5, .zp), (0xD5, .zpx), (0xCD, .abs), (0xDD, .absx), (0xD9, .absy), (0xC1, .indx), (0xD1, .indy)]
  | .CPX => [(0xE0, .imm), (0xE4, .zp), (0xEC, .abs)]
  | .CPY => [(0xC0, .imm), (0xC4, .zp), (0xCC, .abs)]
  | .BIT => [(0x24, .zp), (0x2C, .abs)]
  | .INC => [(0xE6, .zp), (0xF6, .zpx), (0xEE, .abs), (0xFE, .absx)]
  | .DEC => [(0xC6, .zp), (0xD6, .zpx), (0xCE, .abs), (0xDE, .absx)]
  | .INX => [(0xE8, .imp)]
  | .INY => [(0xC8, .imp)]
  | .DEX => [(0xCA, .imp)]
  | .DEY => [(0x88, .imp)]
  | .ASL => [(0x0A, .acc), (0x06, .zp), (0x16, .zpx), (0x0E, .abs), (0x1E, .absx)]
  | .LSR => [(0x4A, .acc), (0x46, .zp), (0x56, .zpx), (0x4E, .abs), (0x5E, .absx)]
  | .ROL => [(0x2A, .acc), (0x26, .zp), (0x36, .zpx), (0x2E, .abs), (0x3E, .absx)]
  | .ROR => [(0x6A, .acc), (0x66, .zp), (0x76, .zpx), (0x6E, .abs), (0x7E, .absx)]
  | .PHA => [(0x48, .imp)]
  | .PHP => [(0x08, .imp)]
  | .PLA => [(0x68, .imp)]
  | .PLP => [(0x28, .imp)]
  | .JMP => [(0x4C, .abs), (0x6C, .ind)]
  | .BCC => [(0x90, .rel)]
  | .BCS => [(0xB0, .rel)]
  | .BEQ => [(0xF0, .rel)]
  | .BMI => [(0x30, .rel)]
  | .BNE => [(0xD0, .rel)]
  | .BPL => [(0x10, .rel)]
  | .BVC => [(0x50, .rel)]
  | .BVS => [(0x70, .rel)]
  | .CLC => [(0x18, .imp)]
  | .CLD => [(0xD8, .imp)]
  | .CLI => [(0x58, .imp)]
  | .CLV => [(0xB8, .imp)]
  | .SEC => [(0x38, .imp)]
  | .SED => [(0xF8, .imp)]
  | .SEI => [(0x78, .imp)]
  | .NOP => [(0xEA, .imp)]
  | .BRK => [(0x00, .imp)]
  | .RTI => [(0x40, .imp)]
  | .RTS => [(0x60, .imp)]
  | .JSR => [(0x20, .abs)]

/-- The instruction has this mnemonic, and its opcode and mode stand in the Encoding line of that mnemonic's rule. -/
def Encoded (m : Mnemonic) (i : Instr) : Prop :=
  i.descriptor.mnemonic = m ∧ (i.descriptor.opcode.toNat, i.descriptor.mode) ∈ rowsOf m

/-- R160, opcodes 0x00 to 0x0F. -/
def cycleRow0 : List Descriptor :=
  [⟨0x00, .BRK, .imp, 1, 7, false, false⟩, ⟨0x01, .ORA, .indx, 2, 6, false, false⟩, ⟨0x05, .ORA, .zp, 2, 3, false, false⟩,
   ⟨0x06, .ASL, .zp, 2, 5, false, false⟩, ⟨0x08, .PHP, .imp, 1, 3, false, false⟩, ⟨0x09, .ORA, .imm, 2, 2, false, false⟩,
   ⟨0x0A, .ASL, .acc, 1, 2, false, false⟩, ⟨0x0D, .ORA, .abs, 3, 4, false, false⟩, ⟨0x0E, .ASL, .abs, 3, 6, false, false⟩]

/-- R160, opcodes 0x10 to 0x1F. -/
def cycleRow1 : List Descriptor :=
  [⟨0x10, .BPL, .rel, 2, 2, false, true⟩, ⟨0x11, .ORA, .indy, 2, 5, true, false⟩, ⟨0x15, .ORA, .zpx, 2, 4, false, false⟩,
   ⟨0x16, .ASL, .zpx, 2, 6, false, false⟩, ⟨0x18, .CLC, .imp, 1, 2, false, false⟩, ⟨0x19, .ORA, .absy, 3, 4, true, false⟩,
   ⟨0x1D, .ORA, .absx, 3, 4, true, false⟩, ⟨0x1E, .ASL, .absx, 3, 7, false, false⟩]

/-- R160, opcodes 0x20 to 0x2F. -/
def cycleRow2 : List Descriptor :=
  [⟨0x20, .JSR, .abs, 3, 6, false, false⟩, ⟨0x21, .AND, .indx, 2, 6, false, false⟩, ⟨0x24, .BIT, .zp, 2, 3, false, false⟩,
   ⟨0x25, .AND, .zp, 2, 3, false, false⟩, ⟨0x26, .ROL, .zp, 2, 5, false, false⟩, ⟨0x28, .PLP, .imp, 1, 4, false, false⟩,
   ⟨0x29, .AND, .imm, 2, 2, false, false⟩, ⟨0x2A, .ROL, .acc, 1, 2, false, false⟩, ⟨0x2C, .BIT, .abs, 3, 4, false, false⟩,
   ⟨0x2D, .AND, .abs, 3, 4, false, false⟩, ⟨0x2E, .ROL, .abs, 3, 6, false, false⟩]

/-- R160, opcodes 0x30 to 0x3F. -/
def cycleRow3 : List Descriptor :=
  [⟨0x30, .BMI, .rel, 2, 2, false, true⟩, ⟨0x31, .AND, .indy, 2, 5, true, false⟩, ⟨0x35, .AND, .zpx, 2, 4, false, false⟩,
   ⟨0x36, .ROL, .zpx, 2, 6, false, false⟩, ⟨0x38, .SEC, .imp, 1, 2, false, false⟩, ⟨0x39, .AND, .absy, 3, 4, true, false⟩,
   ⟨0x3D, .AND, .absx, 3, 4, true, false⟩, ⟨0x3E, .ROL, .absx, 3, 7, false, false⟩]

/-- R160, opcodes 0x40 to 0x4F. -/
def cycleRow4 : List Descriptor :=
  [⟨0x40, .RTI, .imp, 1, 6, false, false⟩, ⟨0x41, .EOR, .indx, 2, 6, false, false⟩, ⟨0x45, .EOR, .zp, 2, 3, false, false⟩,
   ⟨0x46, .LSR, .zp, 2, 5, false, false⟩, ⟨0x48, .PHA, .imp, 1, 3, false, false⟩, ⟨0x49, .EOR, .imm, 2, 2, false, false⟩,
   ⟨0x4A, .LSR, .acc, 1, 2, false, false⟩, ⟨0x4C, .JMP, .abs, 3, 3, false, false⟩, ⟨0x4D, .EOR, .abs, 3, 4, false, false⟩,
   ⟨0x4E, .LSR, .abs, 3, 6, false, false⟩]

/-- R160, opcodes 0x50 to 0x5F. -/
def cycleRow5 : List Descriptor :=
  [⟨0x50, .BVC, .rel, 2, 2, false, true⟩, ⟨0x51, .EOR, .indy, 2, 5, true, false⟩, ⟨0x55, .EOR, .zpx, 2, 4, false, false⟩,
   ⟨0x56, .LSR, .zpx, 2, 6, false, false⟩, ⟨0x58, .CLI, .imp, 1, 2, false, false⟩, ⟨0x59, .EOR, .absy, 3, 4, true, false⟩,
   ⟨0x5D, .EOR, .absx, 3, 4, true, false⟩, ⟨0x5E, .LSR, .absx, 3, 7, false, false⟩]

/-- R160, opcodes 0x60 to 0x6F. -/
def cycleRow6 : List Descriptor :=
  [⟨0x60, .RTS, .imp, 1, 6, false, false⟩, ⟨0x61, .ADC, .indx, 2, 6, false, false⟩, ⟨0x65, .ADC, .zp, 2, 3, false, false⟩,
   ⟨0x66, .ROR, .zp, 2, 5, false, false⟩, ⟨0x68, .PLA, .imp, 1, 4, false, false⟩, ⟨0x69, .ADC, .imm, 2, 2, false, false⟩,
   ⟨0x6A, .ROR, .acc, 1, 2, false, false⟩, ⟨0x6C, .JMP, .ind, 3, 5, false, false⟩, ⟨0x6D, .ADC, .abs, 3, 4, false, false⟩,
   ⟨0x6E, .ROR, .abs, 3, 6, false, false⟩]

/-- R160, opcodes 0x70 to 0x7F. -/
def cycleRow7 : List Descriptor :=
  [⟨0x70, .BVS, .rel, 2, 2, false, true⟩, ⟨0x71, .ADC, .indy, 2, 5, true, false⟩, ⟨0x75, .ADC, .zpx, 2, 4, false, false⟩,
   ⟨0x76, .ROR, .zpx, 2, 6, false, false⟩, ⟨0x78, .SEI, .imp, 1, 2, false, false⟩, ⟨0x79, .ADC, .absy, 3, 4, true, false⟩,
   ⟨0x7D, .ADC, .absx, 3, 4, true, false⟩, ⟨0x7E, .ROR, .absx, 3, 7, false, false⟩]

/-- R160, opcodes 0x80 to 0x8F. -/
def cycleRow8 : List Descriptor :=
  [⟨0x81, .STA, .indx, 2, 6, false, false⟩, ⟨0x84, .STY, .zp, 2, 3, false, false⟩, ⟨0x85, .STA, .zp, 2, 3, false, false⟩,
   ⟨0x86, .STX, .zp, 2, 3, false, false⟩, ⟨0x88, .DEY, .imp, 1, 2, false, false⟩, ⟨0x8A, .TXA, .imp, 1, 2, false, false⟩,
   ⟨0x8C, .STY, .abs, 3, 4, false, false⟩, ⟨0x8D, .STA, .abs, 3, 4, false, false⟩, ⟨0x8E, .STX, .abs, 3, 4, false, false⟩]

/-- R160, opcodes 0x90 to 0x9F. -/
def cycleRow9 : List Descriptor :=
  [⟨0x90, .BCC, .rel, 2, 2, false, true⟩, ⟨0x91, .STA, .indy, 2, 6, false, false⟩, ⟨0x94, .STY, .zpx, 2, 4, false, false⟩,
   ⟨0x95, .STA, .zpx, 2, 4, false, false⟩, ⟨0x96, .STX, .zpy, 2, 4, false, false⟩, ⟨0x98, .TYA, .imp, 1, 2, false, false⟩,
   ⟨0x99, .STA, .absy, 3, 5, false, false⟩, ⟨0x9A, .TXS, .imp, 1, 2, false, false⟩, ⟨0x9D, .STA, .absx, 3, 5, false, false⟩]

/-- R160, opcodes 0xA0 to 0xAF. -/
def cycleRowA : List Descriptor :=
  [⟨0xA0, .LDY, .imm, 2, 2, false, false⟩, ⟨0xA1, .LDA, .indx, 2, 6, false, false⟩, ⟨0xA2, .LDX, .imm, 2, 2, false, false⟩,
   ⟨0xA4, .LDY, .zp, 2, 3, false, false⟩, ⟨0xA5, .LDA, .zp, 2, 3, false, false⟩, ⟨0xA6, .LDX, .zp, 2, 3, false, false⟩,
   ⟨0xA8, .TAY, .imp, 1, 2, false, false⟩, ⟨0xA9, .LDA, .imm, 2, 2, false, false⟩, ⟨0xAA, .TAX, .imp, 1, 2, false, false⟩,
   ⟨0xAC, .LDY, .abs, 3, 4, false, false⟩, ⟨0xAD, .LDA, .abs, 3, 4, false, false⟩, ⟨0xAE, .LDX, .abs, 3, 4, false, false⟩]

/-- R160, opcodes 0xB0 to 0xBF. -/
def cycleRowB : List Descriptor :=
  [⟨0xB0, .BCS, .rel, 2, 2, false, true⟩, ⟨0xB1, .LDA, .indy, 2, 5, true, false⟩, ⟨0xB4, .LDY, .zpx, 2, 4, false, false⟩,
   ⟨0xB5, .LDA, .zpx, 2, 4, false, false⟩, ⟨0xB6, .LDX, .zpy, 2, 4, false, false⟩, ⟨0xB8, .CLV, .imp, 1, 2, false, false⟩,
   ⟨0xB9, .LDA, .absy, 3, 4, true, false⟩, ⟨0xBA, .TSX, .imp, 1, 2, false, false⟩, ⟨0xBC, .LDY, .absx, 3, 4, true, false⟩,
   ⟨0xBD, .LDA, .absx, 3, 4, true, false⟩, ⟨0xBE, .LDX, .absy, 3, 4, true, false⟩]

/-- R160, opcodes 0xC0 to 0xCF. -/
def cycleRowC : List Descriptor :=
  [⟨0xC0, .CPY, .imm, 2, 2, false, false⟩, ⟨0xC1, .CMP, .indx, 2, 6, false, false⟩, ⟨0xC4, .CPY, .zp, 2, 3, false, false⟩,
   ⟨0xC5, .CMP, .zp, 2, 3, false, false⟩, ⟨0xC6, .DEC, .zp, 2, 5, false, false⟩, ⟨0xC8, .INY, .imp, 1, 2, false, false⟩,
   ⟨0xC9, .CMP, .imm, 2, 2, false, false⟩, ⟨0xCA, .DEX, .imp, 1, 2, false, false⟩, ⟨0xCC, .CPY, .abs, 3, 4, false, false⟩,
   ⟨0xCD, .CMP, .abs, 3, 4, false, false⟩, ⟨0xCE, .DEC, .abs, 3, 6, false, false⟩]

/-- R160, opcodes 0xD0 to 0xDF. -/
def cycleRowD : List Descriptor :=
  [⟨0xD0, .BNE, .rel, 2, 2, false, true⟩, ⟨0xD1, .CMP, .indy, 2, 5, true, false⟩, ⟨0xD5, .CMP, .zpx, 2, 4, false, false⟩,
   ⟨0xD6, .DEC, .zpx, 2, 6, false, false⟩, ⟨0xD8, .CLD, .imp, 1, 2, false, false⟩, ⟨0xD9, .CMP, .absy, 3, 4, true, false⟩,
   ⟨0xDD, .CMP, .absx, 3, 4, true, false⟩, ⟨0xDE, .DEC, .absx, 3, 7, false, false⟩]

/-- R160, opcodes 0xE0 to 0xEF. -/
def cycleRowE : List Descriptor :=
  [⟨0xE0, .CPX, .imm, 2, 2, false, false⟩, ⟨0xE1, .SBC, .indx, 2, 6, false, false⟩, ⟨0xE4, .CPX, .zp, 2, 3, false, false⟩,
   ⟨0xE5, .SBC, .zp, 2, 3, false, false⟩, ⟨0xE6, .INC, .zp, 2, 5, false, false⟩, ⟨0xE8, .INX, .imp, 1, 2, false, false⟩,
   ⟨0xE9, .SBC, .imm, 2, 2, false, false⟩, ⟨0xEA, .NOP, .imp, 1, 2, false, false⟩, ⟨0xEC, .CPX, .abs, 3, 4, false, false⟩,
   ⟨0xED, .SBC, .abs, 3, 4, false, false⟩, ⟨0xEE, .INC, .abs, 3, 6, false, false⟩]

/-- R160, opcodes 0xF0 to 0xFF. -/
def cycleRowF : List Descriptor :=
  [⟨0xF0, .BEQ, .rel, 2, 2, false, true⟩, ⟨0xF1, .SBC, .indy, 2, 5, true, false⟩, ⟨0xF5, .SBC, .zpx, 2, 4, false, false⟩,
   ⟨0xF6, .INC, .zpx, 2, 6, false, false⟩, ⟨0xF8, .SED, .imp, 1, 2, false, false⟩, ⟨0xF9, .SBC, .absy, 3, 4, true, false⟩,
   ⟨0xFD, .SBC, .absx, 3, 4, true, false⟩, ⟨0xFE, .INC, .absx, 3, 7, false, false⟩]

/-- The table of 70_reset_and_hazards.md R160: opcode, mnemonic, mode, bytes, cycles, one more cycle if a page is crossed,
the branch cycles. -/
def cycleTable : List Descriptor :=
  cycleRow0 ++ cycleRow1 ++ cycleRow2 ++ cycleRow3 ++ cycleRow4 ++ cycleRow5 ++ cycleRow6 ++ cycleRow7 ++
  cycleRow8 ++ cycleRow9 ++ cycleRowA ++ cycleRowB ++ cycleRowC ++ cycleRowD ++ cycleRowE ++ cycleRowF

/-- The operand form a row's mode and operand bytes give an instruction that reads (40_addressing.md R59 to R68). -/
def readFormOf (i : Instr) : Option ReadForm :=
  match i.descriptor.mode, i.operandBytes with
  | .imm, .one v => some (.imm v)
  | .zp, .one nn => some (.mem (.zp nn))
  | .zpx, .one nn => some (.mem (.zpx nn))
  | .zpy, .one nn => some (.mem (.zpy nn))
  | .abs, .two w => some (.mem (.abs w))
  | .absx, .two w => some (.mem (.absx w))
  | .absy, .two w => some (.mem (.absy w))
  | .indx, .one nn => some (.mem (.indx nn))
  | .indy, .one nn => some (.mem (.indy nn))
  | _, _ => none

/-- The form of an instruction that modifies its operand: A (R58), or what a memory mode gives. -/
def modifyFormOf (i : Instr) : Option ModifyForm :=
  match i.descriptor.mode, readFormOf i with
  | .acc, _ => some .acc
  | _, some (.mem f) => some (.mem f)
  | _, _ => none

/-- The form of an instruction that stores: what a memory mode gives. -/
def addrFormOf (i : Instr) : Option AddrForm :=
  match readFormOf i with
  | some (.mem f) => some f
  | _ => none

/-- Z and N of a result byte, by its value (10_state.md R21). -/
def withZN (p : Status) (r : Byte) : Status := { p with z := decide (r.toNat = 0), n := decide (128 ≤ r.toNat) }

/-- The cycles of a read-class instruction (40_addressing.md R70, 70_reset_and_hazards.md R159). -/
def readCycles (i : Instr) (crossed : Bool) : Nat :=
  i.descriptor.baseCycles + if i.descriptor.pageCrossCycle = true ∧ crossed = true then 1 else 0

/-- `ReadOperand` (40_addressing.md R71): the immediate byte itself and no bus access (R59), or one bus read at the
effective address with the crossing the resolver reports. -/
def operandOf (f : ReadForm) (s : State) : Operand :=
  match f with
  | .imm v => ⟨v, false, s⟩
  | .mem form => ⟨(memRead (resolve form s).ea s).value, (resolve form s).crossed, (memRead (resolve form s).ea s).state⟩

/-- `i` completes from `s`: it reads the operand its mode names, does `result` with it, and spends its cycles; the
poll mask becomes P.I (60_exceptions.md R141). -/
def ReadsAndDoes (i : Instr) (s : State) (result : Byte → State → State) : Prop :=
  Encoded i.descriptor.mnemonic i ∧ ∃ f, readFormOf i = some f ∧
    exec i s = .next
      { result (operandOf f s).value (operandOf f s).state with
        iPoll := s.p.i, cycles := s.cycles + readCycles i (operandOf f s).crossed }

/-- `i` completes from `s`: it stores `value` at the effective address its mode names, and does nothing else. -/
def StoresByte (i : Instr) (s : State) (value : Byte) : Prop :=
  Encoded i.descriptor.mnemonic i ∧ ∃ f, addrFormOf i = some f ∧
    exec i s = .next
      { memWrite (resolve f s).ea value s with iPoll := s.p.i, cycles := s.cycles + i.descriptor.baseCycles }

/-- `i` completes from `s`: the operand its mode names, A or one byte of memory read once and written once, becomes
`value` of it, and P becomes `status` of it. -/
def ModifiesOperand (i : Instr) (s : State) (value : Byte → Byte) (status : Byte → Status) : Prop :=
  Encoded i.descriptor.mnemonic i ∧
  ((modifyFormOf i = some .acc ∧
    exec i s = .next
      { s with a := value s.a, p := status s.a, iPoll := s.p.i, cycles := s.cycles + i.descriptor.baseCycles }) ∨
  ∃ f, modifyFormOf i = some (.mem f) ∧
    exec i s = .next
      { memWrite (resolve f s).ea (value (memRead (resolve f s).ea s).value) (memRead (resolve f s).ea s).state with
        p := status (memRead (resolve f s).ea s).value
        iPoll := s.p.i
        cycles := s.cycles + i.descriptor.baseCycles })

/-- A result byte given by a number, reduced modulo 256 (42_arith_logic.md R84). -/
abbrev byteOf (n : Nat) : Byte := BitVec.ofNat 8 n

/-- The buffer index of the stack byte `k` below SP (44_stack.md R104, R105). -/
def stackBelow (s : State) (k : Nat) : Nat := 0x100 + (s.sp.toNat + 256 - k) % 256

/-- The buffer index of the stack byte `k` above SP (R106). -/
def stackAbove (s : State) (k : Nat) : Nat := 0x100 + (s.sp.toNat + k) % 256

/-- From `s` to `t` a handler was entered (60_exceptions.md R143, 46_flags_system.md R134): the word `pc`, high byte
first, and then the byte `status` are on the stack, I is set, PC is the word at `vector` read through the bus from
there on, and nothing else changed but what the host was delivered. -/
def EntersHandler (pc : Word) (status : Byte) (vector : Word) (s t : State) : Prop :=
  ∃ u : State,
    u = { s with sp := s.sp - 3, p := { s.p with i := true }, mem := u.mem } ∧
    u.mem.read (stackBelow s 0) = hiByte pc ∧
    u.mem.read (stackBelow s 1) = loByte pc ∧
    u.mem.read (stackBelow s 2) = status ∧
    (∀ j, j ≠ stackBelow s 0 → j ≠ stackBelow s 1 → j ≠ stackBelow s 2 → u.mem.read j = s.mem.read j) ∧
    (let lo := memRead vector u
     let hi := memRead (vector + 1) lo.state
     t = { hi.state with pc := makeWord lo.value hi.value })

/-- The mnemonic, the displacement and the condition of a branch (45_control.md R117 to R124). -/
def branchOf (p : Status) : Instr → Option (Mnemonic × Byte × Bool)
  | .bcc d => some (.BCC, d, !p.c)
  | .bcs d => some (.BCS, d, p.c)
  | .bne d => some (.BNE, d, !p.z)
  | .beq d => some (.BEQ, d, p.z)
  | .bpl d => some (.BPL, d, !p.n)
  | .bmi d => some (.BMI, d, p.n)
  | .bvc d => some (.BVC, d, !p.v)
  | .bvs d => some (.BVS, d, p.v)
  | _ => none

/-- The mnemonics of R<n>'s lists, as a membership test. -/
abbrev isOne (i : Instr) (l : List Mnemonic) : Prop := i.descriptor.mnemonic ∈ l

/-- The 105 illegal bytes (30_encoding.md R49), row by row of the opcode map. -/
def illegalBytes : List Nat :=
  [0x02, 0x03, 0x04, 0x07, 0x0B, 0x0C, 0x0F] ++ [0x12, 0x13, 0x14, 0x17, 0x1A, 0x1B, 0x1C, 0x1F] ++
  [0x22, 0x23, 0x27, 0x2B, 0x2F] ++ [0x32, 0x33, 0x34, 0x37, 0x3A, 0x3B, 0x3C, 0x3F] ++
  [0x42, 0x43, 0x44, 0x47, 0x4B, 0x4F] ++ [0x52, 0x53, 0x54, 0x57, 0x5A, 0x5B, 0x5C, 0x5F] ++
  [0x62, 0x63, 0x64, 0x67, 0x6B, 0x6F] ++ [0x72, 0x73, 0x74, 0x77, 0x7A, 0x7B, 0x7C, 0x7F] ++
  [0x80, 0x82, 0x83, 0x87, 0x89, 0x8B, 0x8F] ++ [0x92, 0x93, 0x97, 0x9B, 0x9C, 0x9E, 0x9F] ++
  [0xA3, 0xA7, 0xAB, 0xAF] ++ [0xB2, 0xB3, 0xB7, 0xBB, 0xBF] ++
  [0xC2, 0xC3, 0xC7, 0xCB, 0xCF] ++ [0xD2, 0xD3, 0xD4, 0xD7, 0xDA, 0xDB, 0xDC, 0xDF] ++
  [0xE2, 0xE3, 0xE7, 0xEB, 0xEF] ++ [0xF2, 0xF3, 0xF4, 0xF7, 0xFA, 0xFB, 0xFC, 0xFF]

/-- The instructions that write memory and no stack byte: stores and the memory forms of the read-modify-write ones. -/
def storesAtAddress (i : Instr) : Bool :=
  i.descriptor.mode != .acc && decide (isOne i [.STA, .STX, .STY, .INC, .DEC, .ASL, .LSR, .ROL, .ROR])

/-- The instructions that push. -/
def pushes (i : Instr) : Bool := decide (isOne i [.PHA, .PHP, .JSR, .BRK])

end Sys2Proof.Claims

open Sys2Proof Sys2Proof.Machine Sys2Proof.Claims

/-! ### Encoding -/

/-- 30_encoding.md R52's examples and R45's operand assembly, for every operand byte. -/
def Obligations.SpecExampleWordsDecode : Prop :=
  ∀ (nn ll hh : Byte) (rest : List Byte),
    decode (0xE8 :: rest) = .ok (.inx, rest) ∧
    decode (0x0A :: rest) = .ok (.aslAcc, rest) ∧
    decode (0xA9 :: nn :: rest) = .ok (.ldaImm nn, rest) ∧
    decode (0xB6 :: nn :: rest) = .ok (.ldxZpy nn, rest) ∧
    decode (0xA1 :: nn :: rest) = .ok (.ldaIndx nn, rest) ∧
    decode (0xB1 :: nn :: rest) = .ok (.ldaIndy nn, rest) ∧
    decode (0xD0 :: nn :: rest) = .ok (.bne nn, rest) ∧
    decode (0x48 :: rest) = .ok (.pha, rest) ∧
    (∃ w : Word, w.toNat = ll.toNat + 256 * hh.toNat ∧
      decode (0xAD :: ll :: hh :: rest) = .ok (.ldaAbs w, rest) ∧
      decode (0x6C :: ll :: hh :: rest) = .ok (.jmpInd w, rest) ∧
      decode (0x7D :: ll :: hh :: rest) = .ok (.adcAbsx w, rest) ∧
      decode (0x20 :: ll :: hh :: rest) = .ok (.jsr w, rest))

/-- Decoding the encoding of any instruction gives it back, with every operand bit, whatever follows. -/
def Obligations.DecodeOfEncodeIsIdentity : Prop :=
  ∀ (i : Instr) (rest : List Byte), decode (encode i ++ rest) = .ok (i, rest)

/-- Bytes have one reading: what decodes to an instruction is that instruction's encoding and the rest. -/
def Obligations.DecodedBytesAreTheEncoding : Prop :=
  ∀ (bytes : List Byte) (i : Instr) (rest : List Byte), decode bytes = .ok (i, rest) → bytes = encode i ++ rest

/-- 70_reset_and_hazards.md R160: every instruction's length and cycles are those of a row of the table, and every one of
its 151 rows is some instruction's. -/
def Obligations.RowsAreTheCycleTable : Prop :=
  cycleTable.length = 151 ∧ (∀ i : Instr, i.descriptor ∈ cycleTable) ∧ ∀ r ∈ cycleTable, ∃ i : Instr, i.descriptor = r

/-- R49: exactly the 105 listed bytes are rejected as an opcode, whatever follows them. -/
def Obligations.ExactlyTheListedBytesAreIllegal : Prop :=
  illegalBytes.length = 105 ∧
  ∀ (op : Byte) (rest : List Byte), decode (op :: rest) = .error (.illegalOpcode op) ↔ op.toNat ∈ illegalBytes

/-! ### Memory -/

/-- R28: a byte written through one mirror reads back through all four, at once and until the next write to that cell,
whatever the parameters. -/
def Obligations.RamMirrorsShareStorage : Prop :=
  ∀ (s : State) (a b : Word) (v : Byte), a.toNat ≤ 0x1FFF →
    (b.toNat = a.toNat % 0x800 ∨ b.toNat = a.toNat % 0x800 + 0x800 ∨
      b.toNat = a.toNat % 0x800 + 0x1000 ∨ b.toNat = a.toNat % 0x800 + 0x1800) →
    ∀ writes : List (Word × Byte),
      (∀ w ∈ writes, ¬ (w.1.toNat ≤ 0x1FFF ∧ w.1.toNat % 0x800 = a.toNat % 0x800)) →
      (memRead b (writes.foldl (fun t w => memWrite w.1 w.2 t) (memWrite a v s))).value = v

/-- R27, R30, R34: where the host does not answer, a bus read gives the stored byte and changes nothing; a bus write changes
the byte behind the address and its mirrors, no other byte of the store, reachable by the core or not, and no other field. -/
def Obligations.WriteChangesOneCell : Prop :=
  ∀ (s : State) (a : Word) (v : Byte), s.hostAnswers a = false →
    let index := if a.toNat ≤ 0x1FFF then a.toNat % 0x800 else a.toNat
    s.peek a = s.mem.read index ∧
    memRead a s = ⟨s.peek a, s⟩ ∧
    memWrite a v s = { s with mem := (memWrite a v s).mem } ∧
    (∀ j, (memWrite a v s).mem.read j = if j = index then v else s.mem.read j) ∧
    ∀ b : Word, (memWrite a v s).peek b =
      if a.toNat = b.toNat ∨ (a.toNat ≤ 0x1FFF ∧ b.toNat ≤ 0x1FFF ∧ a.toNat % 0x800 = b.toNat % 0x800) then v
      else s.peek b

/-- R29: the external region, flat and external. What the host answers (`Config.extAnswer` at `extReads`), the count and the
newest-first log are the model's choice for the host's side (log entry 4). -/
def Obligations.ExternalRegionFollowsExtBus : Prop :=
  ∀ (s : State) (a : Word) (v : Byte), 0x1FFF < a.toNat →
    (s.config.extBus = .flat →
      (memRead a s).value = s.mem.read a.toNat ∧ (memRead a s).state = s ∧
      memWrite a v s = { s with mem := s.mem.write a.toNat v }) ∧
    (s.config.extBus = .external →
      (memRead a s).value = Config.extAnswer s.extReads a ∧
      (memRead a s).state =
        { s with extReads := s.extReads + 1, extLog := .read a (Config.extAnswer s.extReads a) :: s.extLog } ∧
      memWrite a v s = { s with extLog := .write a v :: s.extLog })

/-- R39, R71: a read-modify-write of an external address is one read and then one write, delivered in that order. The
log, the count and the answer that say so are the model's choice (log entry 4). The zero-page forms never reach the host. -/
def Obligations.ExternalModifyIsOneReadThenOneWrite : Prop :=
  ∀ (i : Instr) (f : AddrForm) (s : State), modifyFormOf i = some (.mem f) →
    isOne i [.INC, .DEC, .ASL, .LSR, .ROL, .ROR] → s.hostAnswers (resolve f s).ea = true →
    ∃ t v, exec i s = .next t ∧
      t.extLog = .write (resolve f s).ea v :: .read (resolve f s).ea (Config.extAnswer s.extReads (resolve f s).ea) ::
        s.extLog ∧
      t.extReads = s.extReads + 1 ∧ t.mem = s.mem

/-! ### Addressing modes -/

/-- R60 to R65: the zero-page modes wrap within page 0 and never report a crossing; the absolute indexed modes carry into
the high byte, wrap at 0xFFFF and report a crossing. -/
def Obligations.DirectModesResolve : Prop :=
  ∀ (s : State) (nn : Byte) (w : Word),
    let gives := fun (f : AddrForm) (ea : Nat) (crossed : Prop) =>
      (resolve f s).ea.toNat = ea ∧ ((resolve f s).crossed = true ↔ crossed) ∧ (resolve f s).state = s
    gives (.zp nn) nn.toNat False ∧
    gives (.zpx nn) ((nn.toNat + s.x.toNat) % 256) False ∧
    gives (.zpy nn) ((nn.toNat + s.y.toNat) % 256) False ∧
    gives (.abs w) w.toNat False ∧
    gives (.absx w) ((w.toNat + s.x.toNat) % 65536) (w.toNat / 256 ≠ (w.toNat + s.x.toNat) % 65536 / 256) ∧
    gives (.absy w) ((w.toNat + s.y.toNat) % 65536) (w.toNat / 256 ≠ (w.toNat + s.y.toNat) % 65536 / 256)

/-- R67, R68: the zero-page pointers take both bytes from page 0, wherever they start. -/
def Obligations.ZeroPagePointersWrapInPageZero : Prop :=
  ∀ (s : State) (nn : Byte),
    (let p := (nn.toNat + s.x.toNat) % 256
     (resolve (.indx nn) s).ea.toNat = (s.mem.read p).toNat + 256 * (s.mem.read ((p + 1) % 256)).toNat ∧
       (resolve (.indx nn) s).crossed = false ∧ (resolve (.indx nn) s).state = s) ∧
    (let base := (s.mem.read nn.toNat).toNat + 256 * (s.mem.read ((nn.toNat + 1) % 256)).toNat
     (resolve (.indy nn) s).ea.toNat = (base + s.y.toNat) % 65536 ∧
       ((resolve (.indy nn) s).crossed = true ↔ base / 256 ≠ (base + s.y.toNat) % 65536 / 256) ∧
       (resolve (.indy nn) s).state = s)

/-- R69: a branch target is relative to the next instruction, the displacement signed, modulo 2^16. -/
def Obligations.BranchTargetIsSignedRelative : Prop :=
  ∀ (s : State) (disp : Byte),
    ((branchTarget disp s).toNat : Int) = ((s.pc.toNat : Int) + disp.toInt) % 65536

/-! ### Loads, stores, transfers -/

/-- R72, R73, R74: LDA, LDX and LDY in every mode; and `ReadOperand` of R71, by which every read-class instruction gets its
operand, is an immediate byte or one bus read. -/
def Obligations.LoadsCompleteWithOperand : Prop :=
  (∀ (v : Byte) (s : State), readOperand (.imm v) s = ⟨v, false, s⟩) ∧
  (∀ (f : AddrForm) (s : State),
    readOperand (.mem f) s =
      ⟨(memRead (resolve f s).ea s).value, (resolve f s).crossed, (memRead (resolve f s).ea s).state⟩) ∧
  ∀ (i : Instr) (s : State),
    (isOne i [.LDA] → ReadsAndDoes i s fun m t => { t with a := m, p := withZN s.p m }) ∧
    (isOne i [.LDX] → ReadsAndDoes i s fun m t => { t with x := m, p := withZN s.p m }) ∧
    (isOne i [.LDY] → ReadsAndDoes i s fun m t => { t with y := m, p := withZN s.p m })

/-- R75, R76, R77: STA, STX and STY in every mode. -/
def Obligations.StoresCompleteWithRegister : Prop :=
  ∀ (i : Instr) (s : State),
    (isOne i [.STA] → StoresByte i s s.a) ∧ (isOne i [.STX] → StoresByte i s s.x) ∧
    (isOne i [.STY] → StoresByte i s s.y)

/-- R78 to R83: the transfers. -/
def Obligations.TransfersCopyRegisters : Prop :=
  (Encoded .TAX .tax ∧ Encoded .TAY .tay ∧ Encoded .TXA .txa ∧ Encoded .TYA .tya ∧ Encoded .TSX .tsx ∧ Encoded .TXS .txs) ∧
  ∀ s : State,
    exec .tax s = .next { s with x := s.a, p := withZN s.p s.a, iPoll := s.p.i, cycles := s.cycles + 2 } ∧
    exec .tay s = .next { s with y := s.a, p := withZN s.p s.a, iPoll := s.p.i, cycles := s.cycles + 2 } ∧
    exec .txa s = .next { s with a := s.x, p := withZN s.p s.x, iPoll := s.p.i, cycles := s.cycles + 2 } ∧
    exec .tya s = .next { s with a := s.y, p := withZN s.p s.y, iPoll := s.p.i, cycles := s.cycles + 2 } ∧
    exec .tsx s = .next { s with x := s.sp, p := withZN s.p s.sp, iPoll := s.p.i, cycles := s.cycles + 2 } ∧
    exec .txs s = .next { s with sp := s.x, iPoll := s.p.i, cycles := s.cycles + 2 }

/-! ### Arithmetic and logic -/

/-- R85: ADC in every mode: the sum modulo 256, C the unsigned carry, V the signed overflow, D without effect. -/
def Obligations.AddWithCarryIsBinary : Prop :=
  ∀ (i : Instr) (s : State), isOne i [.ADC] →
    ReadsAndDoes i s fun m t =>
      let sum := s.a.toNat + m.toNat + s.p.c.toNat
      let signed := s.a.toInt + m.toInt + s.p.c.toNat
      { t with
        a := byteOf sum
        p := withZN { s.p with c := decide (255 < sum), v := decide (signed < -128 ∨ 127 < signed) } (byteOf sum) }

/-- R86: SBC in every mode: the difference modulo 256, C set iff there was no borrow, V the signed overflow. -/
def Obligations.SubtractWithBorrowIsBinary : Prop :=
  ∀ (i : Instr) (s : State), isOne i [.SBC] →
    ReadsAndDoes i s fun m t =>
      let borrow : Int := 1 - s.p.c.toNat
      let diff : Int := s.a.toNat - m.toNat - borrow
      let signed := s.a.toInt - m.toInt - borrow
      { t with
        a := BitVec.ofInt 8 diff
        p := withZN { s.p with c := decide (0 ≤ diff), v := decide (signed < -128 ∨ 127 < signed) } (BitVec.ofInt 8 diff) }

/-- R87, R88, R89: AND, ORA and EOR in every mode. -/
def Obligations.LogicCombinesOperandWithA : Prop :=
  ∀ (i : Instr) (s : State),
    (isOne i [.AND] → ReadsAndDoes i s fun m t => { t with a := s.a &&& m, p := withZN s.p (s.a &&& m) }) ∧
    (isOne i [.ORA] → ReadsAndDoes i s fun m t => { t with a := s.a ||| m, p := withZN s.p (s.a ||| m) }) ∧
    (isOne i [.EOR] → ReadsAndDoes i s fun m t => { t with a := s.a ^^^ m, p := withZN s.p (s.a ^^^ m) })

/-- R90, R91, R92: CMP, CPX and CPY in every mode: an unsigned comparison that changes only C, Z and N. -/
def Obligations.CompareIsUnsigned : Prop :=
  ∀ (i : Instr) (s : State),
    let compared := fun (r m : Byte) (t : State) =>
      { t with
        p := { s.p with
          c := decide (m.toNat ≤ r.toNat)
          z := decide (r = m)
          n := decide (128 ≤ (r.toNat + 256 - m.toNat) % 256) } }
    (isOne i [.CMP] → ReadsAndDoes i s (compared s.a)) ∧ (isOne i [.CPX] → ReadsAndDoes i s (compared s.x)) ∧
    (isOne i [.CPY] → ReadsAndDoes i s (compared s.y))

/-- R93: BIT in both modes: Z from A and M, N and V from bits 7 and 6 of M, nothing else. -/
def Obligations.BitTestTakesFlagsFromOperand : Prop :=
  ∀ (i : Instr) (s : State), isOne i [.BIT] →
    ReadsAndDoes i s fun m t =>
      { t with
        p := { s.p with
          z := decide ((s.a &&& m).toNat = 0)
          n := decide (128 ≤ m.toNat)
          v := decide (64 ≤ m.toNat % 128) } }

/-- R94, R95: INC and DEC in every mode. -/
def Obligations.IncrementAndDecrementMemory : Prop :=
  ∀ (i : Instr) (s : State),
    (isOne i [.INC] → ModifiesOperand i s (fun m => byteOf (m.toNat + 1)) fun m => withZN s.p (byteOf (m.toNat + 1))) ∧
    (isOne i [.DEC] → ModifiesOperand i s (fun m => byteOf (m.toNat + 255)) fun m => withZN s.p (byteOf (m.toNat + 255)))

/-- R96 to R99: INX, INY, DEX and DEY. -/
def Obligations.IncrementAndDecrementIndex : Prop :=
  (Encoded .INX .inx ∧ Encoded .INY .iny ∧ Encoded .DEX .dex ∧ Encoded .DEY .dey) ∧
  ∀ s : State,
    (let r := byteOf (s.x.toNat + 1)
     exec .inx s = .next { s with x := r, p := withZN s.p r, iPoll := s.p.i, cycles := s.cycles + 2 }) ∧
    (let r := byteOf (s.y.toNat + 1)
     exec .iny s = .next { s with y := r, p := withZN s.p r, iPoll := s.p.i, cycles := s.cycles + 2 }) ∧
    (let r := byteOf (s.x.toNat + 255)
     exec .dex s = .next { s with x := r, p := withZN s.p r, iPoll := s.p.i, cycles := s.cycles + 2 }) ∧
    (let r := byteOf (s.y.toNat + 255)
     exec .dey s = .next { s with y := r, p := withZN s.p r, iPoll := s.p.i, cycles := s.cycles + 2 })

/-! ### Shifts and rotates -/

/-- R100 to R103: ASL, LSR, ROL and ROR in every mode, on A and on memory. -/
def Obligations.ShiftsAndRotatesByOneBit : Prop :=
  ∀ (i : Instr) (s : State),
    let shifts := fun (value : Byte → Byte) (out : Byte → Bool) =>
      ModifiesOperand i s value fun m => withZN { s.p with c := out m } (value m)
    (isOne i [.ASL] → shifts (fun m => byteOf (2 * m.toNat)) fun m => decide (128 ≤ m.toNat)) ∧
    (isOne i [.LSR] → shifts (fun m => byteOf (m.toNat / 2)) fun m => decide (m.toNat % 2 = 1)) ∧
    (isOne i [.ROL] → shifts (fun m => byteOf (2 * m.toNat + s.p.c.toNat)) fun m => decide (128 ≤ m.toNat)) ∧
    (isOne i [.ROR] → shifts (fun m => byteOf (m.toNat / 2 + 128 * s.p.c.toNat)) fun m => decide (m.toNat % 2 = 1))

/-! ### The stack -/

/-- R107: a push then a pull gives the byte and SP back; 256 pushes bring SP back and touch no byte outside page 1;
the wraps at 0x00 and 0xFF. -/
def Obligations.StackEngineLaws : Prop :=
  (∀ (s : State) (v : Byte), (pull (push v s)).value = v ∧ (pull (push v s)).state = { push v s with sp := s.sp }) ∧
  (∀ (s : State) (vs : List Byte), vs.length = 256 →
    (vs.foldl (fun t v => push v t) s).sp = s.sp ∧
    ∀ j, ¬ (0x100 ≤ j ∧ j ≤ 0x1FF) → (vs.foldl (fun t v => push v t) s).mem.read j = s.mem.read j) ∧
  (∀ (s : State) (v : Byte), s.sp = 0x00 →
    (push v s).sp = 0xFF ∧ (push v s).mem.read 0x100 = v ∧ ∀ j, j ≠ 0x100 → (push v s).mem.read j = s.mem.read j) ∧
  ∀ s : State, s.sp = 0xFF → pull s = ⟨s.mem.read 0x100, { s with sp := 0x00 }⟩

/-- R108: a word is pushed high byte first and pulled low byte first, and a pull of a pushed word gives it back. -/
def Obligations.WordsArePushedHighByteFirst : Prop :=
  (∀ (s : State) (w : Word),
    pushWord w s = { s with sp := s.sp - 2, mem := (pushWord w s).mem } ∧
    (pushWord w s).mem.read (stackBelow s 0) = hiByte w ∧ (pushWord w s).mem.read (stackBelow s 1) = loByte w ∧
    ∀ j, j ≠ stackBelow s 0 → j ≠ stackBelow s 1 → (pushWord w s).mem.read j = s.mem.read j) ∧
  (∀ s : State,
    pullWord s = ⟨makeWord (s.mem.read (stackAbove s 1)) (s.mem.read (stackAbove s 2)), { s with sp := s.sp + 2 }⟩) ∧
  ∀ (s : State) (w : Word), (pullWord (pushWord w s)).value = w ∧ (pullWord (pushWord w s)).state.sp = s.sp

/-- R109, R110: PHA pushes A, PHP pushes P with bits 4 and 5 set. -/
def Obligations.PushInstructionsStoreOneByte : Prop :=
  (Encoded .PHA .pha ∧ Encoded .PHP .php) ∧
  ∀ s : State,
    let pushed := fun (v : Byte) (t : State) =>
      t = { s with sp := s.sp - 1, mem := t.mem, iPoll := s.p.i, cycles := s.cycles + 3 } ∧
      t.mem.read (stackBelow s 0) = v ∧ ∀ j, j ≠ stackBelow s 0 → t.mem.read j = s.mem.read j
    (∃ t, exec .pha s = .next t ∧ pushed s.a t) ∧ (∃ t, exec .php s = .next t ∧ pushed (s.p.toByte ||| 0x30) t)

/-- R111, R112: PLA loads A and sets Z and N; PLP loads P from the pulled byte without its bits 4 and 5, and leaves the
poll mask at the I of before. -/
def Obligations.PullInstructionsLoadOneByte : Prop :=
  (Encoded .PLA .pla ∧ Encoded .PLP .plp) ∧
  ∀ s : State,
    let v := s.mem.read (stackAbove s 1)
    exec .pla s = .next
      { s with sp := s.sp + 1, a := v, p := withZN s.p v, iPoll := s.p.i, cycles := s.cycles + 4 } ∧
    ∃ t, exec .plp s = .next t ∧ t.p.toByte = (v &&& 0xCF) ||| 0x20 ∧
      t = { s with sp := s.sp + 1, p := t.p, iPoll := s.p.i, cycles := s.cycles + 4 }

/-! ### Control -/

/-- R113 (with 40_addressing.md R63 and R66): JMP in both modes; the pointer's second byte comes from its own page. -/
def Obligations.JumpsLoadPc : Prop :=
  ∀ (s : State) (w : Word),
    Encoded .JMP (.jmpAbs w) ∧ Encoded .JMP (.jmpInd w) ∧
    exec (.jmpAbs w) s = .next { s with pc := w, iPoll := s.p.i, cycles := s.cycles + 3 } ∧
    (let lo := memRead w s
     let hi := memRead (BitVec.ofNat 16 (w.toNat / 256 * 256 + (w.toNat + 1) % 256)) lo.state
     ∃ target : Word, target.toNat = lo.value.toNat + 256 * hi.value.toNat ∧
       exec (.jmpInd w) s = .next { hi.state with pc := target, iPoll := s.p.i, cycles := s.cycles + 5 })

/-- R114: JSR. A step fetches its opcode and its low target byte; PC is then at its third byte, is pushed, and the high
target byte is read there after the pushes. -/
def Obligations.CallPushesPcThenFetchesHighByte : Prop :=
  (∀ s : State, s.halted = none → pollInterrupt s = none →
    let op := fetch { s with skipPoll := false }
    let ll := fetch op.state
    op.value = 0x20 →
      ∃ target, loByte target = ll.value ∧ Encoded .JSR (.jsr target) ∧ ll.state.pc = s.pc + 2 ∧
        step s = exec (.jsr target) ll.state) ∧
  ∀ (s : State) (target : Word), ∃ u t : State,
    u = { s with sp := s.sp - 2, mem := u.mem } ∧
    u.mem.read (stackBelow s 0) = hiByte s.pc ∧ u.mem.read (stackBelow s 1) = loByte s.pc ∧
    (∀ j, j ≠ stackBelow s 0 → j ≠ stackBelow s 1 → u.mem.read j = s.mem.read j) ∧
    exec (.jsr target) s = .next t ∧
    t = { (memRead s.pc u).state with
      pc := makeWord (loByte target) (memRead s.pc u).value, iPoll := s.p.i, cycles := s.cycles + 6 }

/-- A JSR whose third byte stands at PC in the store and is not under its own push reaches its encoded target. -/
def Obligations.CallReachesEncodedTarget : Prop :=
  ∀ (s : State) (target : Word), s.hostAnswers s.pc = false → s.peek s.pc = hiByte target →
    cellIndex s.pc ≠ stackBelow s 0 → cellIndex s.pc ≠ stackBelow s 1 →
    ∃ t, exec (.jsr target) s = .next t ∧ t.pc = target

/-- R115: RTS pulls a word, low byte first, and goes to it plus one. -/
def Obligations.ReturnGoesToPulledWordPlusOne : Prop :=
  Encoded .RTS .rts ∧
  ∀ s : State, ∃ t, exec .rts s = .next t ∧
    t.pc.toNat = ((s.mem.read (stackAbove s 1)).toNat + 256 * (s.mem.read (stackAbove s 2)).toNat + 1) % 65536 ∧
    t = { s with sp := s.sp + 2, pc := t.pc, iPoll := s.p.i, cycles := s.cycles + 6 }

/-- A subroutine that leaves SP and its return address alone returns to the instruction after the JSR, with the
caller's SP. -/
def Obligations.CallThenReturnComesBack : Prop :=
  ∀ (s t u : State) (target : Word), exec (.jsr target) s = .next t → u.sp = t.sp →
    u.mem.read (stackBelow s 0) = t.mem.read (stackBelow s 0) → u.mem.read (stackBelow s 1) = t.mem.read (stackBelow s 1) →
    ∃ v, exec .rts u = .next v ∧ v.pc = s.pc + 1 ∧ v.sp = s.sp

/-- R116 to R124: the eight branches, from PC at the next instruction. -/
def Obligations.BranchesFollowTheirFlag : Prop :=
  ∀ (i : Instr) (s : State) (m : Mnemonic) (disp : Byte) (taken : Bool), branchOf s.p i = some (m, disp, taken) →
    let target : Word := BitVec.ofInt 16 (s.pc.toNat + disp.toInt)
    Encoded m i ∧
    exec i s = .next
      { s with
        pc := if taken = true then target else s.pc
        iPoll := s.p.i
        cycles := s.cycles + 2 +
          if taken = true then (if s.pc.toNat / 256 = target.toNat / 256 then 1 else 2) else 0 }

/-! ### Flag instructions, NOP, BRK, RTI -/

/-- R126 to R133: what the flag instructions and NOP make of P as a byte. The next poll uses the I of before (R141), which
for CLI and SEI is not the new one. -/
def Obligations.FlagInstructionsChangeOneBit : Prop :=
  (Encoded .CLC .clc ∧ Encoded .CLD .cld ∧ Encoded .CLI .cli ∧ Encoded .CLV .clv ∧
    Encoded .SEC .sec ∧ Encoded .SED .sed ∧ Encoded .SEI .sei ∧ Encoded .NOP .nop) ∧
  ∀ s : State,
    let leaves := fun (i : Instr) (p : Byte) =>
      ∃ t, exec i s = .next t ∧ t.p.toByte = p ∧ t = { s with p := t.p, iPoll := s.p.i, cycles := s.cycles + 2 }
    leaves .clc (s.p.toByte &&& 0xFE) ∧ leaves .cld (s.p.toByte &&& 0xF7) ∧ leaves .cli (s.p.toByte &&& 0xFB) ∧
    leaves .clv (s.p.toByte &&& 0xBF) ∧ leaves .sec (s.p.toByte ||| 0x01) ∧ leaves .sed (s.p.toByte ||| 0x08) ∧
    leaves .sei (s.p.toByte ||| 0x04) ∧ leaves .nop s.p.toByte

/-- R134: BRK, from PC past its opcode: the handler at 0xFFFE is entered with PC + 1 and P with bits 4 and 5 set. That
BRK sets skip_poll, so that the handler's first instruction runs before a pending NMI is taken (R145, D16), is the model's
inference (log entry 13). -/
def Obligations.BreakEntersIrqHandler : Prop :=
  Encoded .BRK .brk ∧
  ∀ s : State, ∃ t u, exec .brk s = .next t ∧
    EntersHandler (s.pc + 1) (s.p.toByte ||| 0x30) 0xFFFE { s with pc := s.pc + 1 } u ∧
    t = { u with iPoll := true, skipPoll := true, cycles := s.cycles + 7 }

/-- R135: RTI pulls P without bits 4 and 5, then PC, low byte first; the new I is the poll mask at once. -/
def Obligations.ReturnFromInterruptRestoresPAndPc : Prop :=
  Encoded .RTI .rti ∧
  ∀ s : State, ∃ t, exec .rti s = .next t ∧
    t.p.toByte = (s.mem.read (stackAbove s 1) &&& 0xCF) ||| 0x20 ∧
    t.pc.toNat = (s.mem.read (stackAbove s 2)).toNat + 256 * (s.mem.read (stackAbove s 3)).toNat ∧
    t = { s with sp := s.sp + 3, p := t.p, pc := t.pc, iPoll := t.p.i, cycles := s.cycles + 6 }

/-- R17: the bits of P; bit 4 reads 0 and bit 5 reads 1 in every state (R18). -/
def Obligations.StatusByteLayout : Prop :=
  ∀ s : State,
    s.p.toByte.getLsbD 0 = s.p.c ∧ s.p.toByte.getLsbD 1 = s.p.z ∧ s.p.toByte.getLsbD 2 = s.p.i ∧
    s.p.toByte.getLsbD 3 = s.p.d ∧ s.p.toByte.getLsbD 4 = false ∧ s.p.toByte.getLsbD 5 = true ∧
    s.p.toByte.getLsbD 6 = s.p.v ∧ s.p.toByte.getLsbD 7 = s.p.n

/-! ### Interrupts and faults -/

/-- R143: NMI and IRQ entry. -/
def Obligations.InterruptEntrySavesPcAndP : Prop :=
  ∀ (kind : Interrupt) (s : State), ∃ u,
    EntersHandler s.pc ((s.p.toByte &&& 0xEF) ||| 0x20) (if kind = .nmi then 0xFFFA else 0xFFFE) s u ∧
    interruptEntry kind s =
      { u with
        nmiPending := if kind = .nmi then false else s.nmiPending
        iPoll := true
        skipPoll := true
        cycles := s.cycles + 7 }

/-- R141, R142: a poll happens unless skip_poll is set; it takes a pending NMI whatever I is, else an asserted IRQ that
the poll mask admits; else the step is one instruction, run with skip_poll cleared. So the first instruction after an
interrupt entry runs whatever the host raises meanwhile, and so does the first one after a BRK: an NMI interrupts any
handler after its first instruction (R145; for BRK the model's inference, log entry 13). -/
def Obligations.PollTakesNmiBeforeUnmaskedIrq : Prop :=
  (∀ s : State, s.halted = none →
    (s.skipPoll = false → s.nmiPending = true → step s = .next (interruptEntry .nmi s)) ∧
    (s.skipPoll = false → s.nmiPending = false → s.irq = true → s.iPoll = false → step s = .next (interruptEntry .irq s)) ∧
    (s.skipPoll = true ∨ (s.nmiPending = false ∧ (s.irq = false ∨ s.iPoll = true)) →
      ∀ i f, fetchInstr { s with skipPoll := false } = .instr i f → step s = exec i f)) ∧
  (∀ (kind : Interrupt) (s : State) (level nmi : Bool) (i : Instr) (f : State), s.halted = none →
    let t := { interruptEntry kind s with irq := level, nmiPending := nmi }
    fetchInstr { t with skipPoll := false } = .instr i f → step t = exec i f ∧ f.skipPoll = false) ∧
  ∀ (s u : State) (level nmi : Bool) (i : Instr) (f : State), s.halted = none → exec .brk s = .next u →
    let t := { u with irq := level, nmiPending := nmi }
    fetchInstr { t with skipPoll := false } = .instr i f → step t = exec i f ∧ f.skipPoll = false

/-- R141: after every instruction but CLI, SEI and PLP the poll mask is P.I, after those it is the P.I of before. -/
def Obligations.PollMaskAfterEveryInstruction : Prop :=
  ∀ (i : Instr) (s t : State), exec i s = .next t →
    t.iPoll = if isOne i [.CLI, .SEI, .PLP] then s.p.i else t.p.i

/-- R145: a handler that leaves SP and its three stack bytes alone returns, by RTI, to the interrupted instruction with
the interrupted P; BRK's returns past the padding byte. -/
def Obligations.ReturnUndoesHandlerEntry : Prop :=
  ∀ (s u : State),
    let keeps := fun (t : State) =>
      u.sp = t.sp ∧ ∀ k, k < 3 → u.mem.read (stackBelow s k) = t.mem.read (stackBelow s k)
    (∀ kind, keeps (interruptEntry kind s) →
      ∃ v, exec .rti u = .next v ∧ v.pc = s.pc ∧ v.p = s.p ∧ v.sp = s.sp ∧ v.iPoll = s.p.i) ∧
    (∀ t, exec .brk s = .next t → keeps t →
      ∃ v, exec .rti u = .next v ∧ v.pc = s.pc + 1 ∧ v.p = s.p ∧ v.sp = s.sp ∧ v.iPoll = s.p.i)

/-- R137, and the list of 30_encoding.md R49: a step faults as FatalOpcode exactly when it reaches an illegal byte; the
record holds PC, the byte and the registers; what stands after it is the state with the record in `halted`. That
skip_poll is cleared in it, as R47 does first, is the model's reading (log entry 6). -/
def Obligations.IllegalOpcodeIsFatal : Prop :=
  illegalBytes.length = 105 ∧
  ∀ s : State, s.halted = none → pollInterrupt s = none →
    let op := (memRead s.pc s).value
    let record : FatalRecord := ⟨s.pc, op, ⟨s.a, s.x, s.y, s.sp, s.p.toByte, s.cycles⟩⟩
    (op.toNat ∈ illegalBytes →
      step s = .fault (.fatalOpcode record) ∧
      afterStep s = { (memRead s.pc s).state with skipPoll := false, halted := some record }) ∧
    (op.toNat ∉ illegalBytes → ∃ t, step s = .next t)

/-- R138: a FatalOpcode leaves its record in `halted`; from then on the core has no step, and nothing the host does but a
reset changes that or any register. That the missing step is the fault `halted` (log entry 6) and the host's actions are
these events (log entry 10) is the model's choice. -/
def Obligations.HaltedUntilReset : Prop :=
  (∀ (s : State) (record : FatalRecord), step s = .fault (.fatalOpcode record) → (afterStep s).halted = some record) ∧
  ∀ (s : State) (record : FatalRecord) (events : List Event), s.halted = some record → Event.reset ∉ events →
    let t := runEvents events s
    step t = .fault (.halted record) ∧
    t = { s with nmiPending := t.nmiPending, irq := t.irq, mem := t.mem } ∧
    ((∀ index v, Event.poke index v ∉ events) → t.mem = s.mem) ∧ (hostReset t).halted = none

/-- R139: an NMI event latches; two merge into one; only taking the NMI or a reset clears it; I never masks it. -/
def Obligations.NmiIsLatchedUntilTaken : Prop :=
  (∀ s : State, nmiRequest s = { s with nmiPending := true } ∧ nmiRequest (nmiRequest s) = nmiRequest s) ∧
  (∀ (s : State) (e : Event), s.nmiPending = true → (e.apply s).nmiPending = false →
    e = .reset ∨ (e = .step ∧ step s = .next (interruptEntry .nmi s))) ∧
  (∀ s : State, (interruptEntry .nmi s).nmiPending = false ∧ (hostReset s).nmiPending = false) ∧
  ∀ (s : State) (i mask : Bool), s.halted = none → s.skipPoll = false → s.nmiPending = true →
    step { s with p := { s.p with i := i }, iPoll := mask } =
      .next (interruptEntry .nmi { s with p := { s.p with i := i }, iPoll := mask })

/-! ### The step -/

/-- R46, R47: the bytes at PC, where the store gives them, decode to an instruction, and the step is that instruction's
execution with PC past the bytes it fetches first (JSR's third byte it fetches itself, R114) and skip_poll cleared. -/
def Obligations.StepRunsDecodedInstruction : Prop :=
  ∀ (s : State) (i : Instr) (rest : List Byte), s.halted = none → pollInterrupt s = none →
    s.hostAnswers s.pc = false → s.hostAnswers (s.pc + 1) = false → s.hostAnswers (s.pc + 2) = false →
    decode [s.peek s.pc, s.peek (s.pc + 1), s.peek (s.pc + 2)] = .ok (i, rest) →
    step s = exec i
      { s with
        pc := s.pc + if isOne i [.JSR] then 2 else BitVec.ofNat 16 (encode i).length
        skipPoll := false }

/-- R46, R47 with any EXT_BUS: the bytes come from the bus in order, one after another. -/
def Obligations.StepFetchesThroughTheBus : Prop :=
  ∀ (s : State) (i : Instr), s.halted = none → pollInterrupt s = none →
    let b0 := fetch { s with skipPoll := false }
    let b1 := fetch b0.state
    let b2 := fetch b1.state
    (decode [b0.value] = .ok (i, []) → step s = exec i b0.state) ∧
    (decode [b0.value, b1.value] = .ok (i, []) → step s = exec i b1.state) ∧
    (b0.value ≠ 0x20 → decode [b0.value, b1.value, b2.value] = .ok (i, []) → step s = exec i b2.state) ∧
    (b0.value = 0x20 → step s = exec (.jsr (makeWord b1.value (b1.state.peek b1.state.pc))) b1.state)

/-- Every instruction completes from every state, in 2 to 7 cycles (70_reset_and_hazards.md R159, R160). -/
def Obligations.EveryInstructionCompletes : Prop :=
  ∀ (i : Instr) (s : State), ∃ t, exec i s = .next t ∧ s.cycles + 2 ≤ t.cycles ∧ t.cycles ≤ s.cycles + 7 ∧
    i.descriptor.baseCycles ≤ t.cycles - s.cycles ∧ t.cycles - s.cycles ≤ i.descriptor.baseCycles + 2

/-- No instruction reads the cycle counter (10_state.md R24). With EXT_BUS = external this compares two runs that get the
same host answers, which is the model's choice (log entry 4). -/
def Obligations.CycleCounterIsNeverRead : Prop :=
  ∀ (i : Instr) (s t : State) (c : Nat), exec i s = .next t →
    exec i { s with cycles := c } = .next { t with cycles := c + (t.cycles - s.cycles) }

/-- 10_state.md R22: D changes no result: an instruction that neither writes D nor pushes P does the same with any D. With
EXT_BUS = external this compares two runs that get the same host answers, which is the model's choice (log entry 4). -/
def Obligations.DecimalFlagIsInert : Prop :=
  ∀ (i : Instr) (s t : State) (d : Bool), ¬ isOne i [.CLD, .SED, .PLP, .RTI, .PHP, .BRK] → exec i s = .next t →
    exec i { s with p := { s.p with d := d } } = .next { t with p := { t.p with d := d } }

/-! ### Frames -/

/-- R12, R13, R14, R15: which instructions can change A, X, Y and SP. -/
def Obligations.RegisterFrames : Prop :=
  ∀ (i : Instr) (s t : State), exec i s = .next t →
    (¬ isOne i [.ADC, .SBC, .AND, .ORA, .EOR, .LDA, .TXA, .TYA, .PLA] →
      ¬ (i.descriptor.mode = .acc ∧ isOne i [.ASL, .LSR, .ROL, .ROR]) → t.a = s.a) ∧
    (¬ isOne i [.LDX, .TAX, .TSX, .INX, .DEX] → t.x = s.x) ∧
    (¬ isOne i [.LDY, .TAY, .INY, .DEY] → t.y = s.y) ∧
    (¬ isOne i [.PHA, .PHP, .PLA, .PLP, .JSR, .RTS, .BRK, .RTI, .TXS] → t.sp = s.sp)

/-- R19 to R22: which instructions can change each flag. -/
def Obligations.FlagFrames : Prop :=
  ∀ (i : Instr) (s t : State), exec i s = .next t →
    (¬ isOne i [.ADC, .SBC, .CMP, .CPX, .CPY, .ASL, .LSR, .ROL, .ROR, .CLC, .SEC, .PLP, .RTI] → t.p.c = s.p.c) ∧
    (¬ isOne i [.ADC, .SBC, .BIT, .CLV, .PLP, .RTI] → t.p.v = s.p.v) ∧
    (¬ isOne i [.SEI, .CLI, .BRK, .PLP, .RTI] → t.p.i = s.p.i) ∧
    (¬ isOne i [.SED, .CLD, .PLP, .RTI] → t.p.d = s.p.d) ∧
    (isOne i [.STA, .STX, .STY, .TXS, .PHA, .PHP, .JMP, .JSR, .RTS, .BCC, .BCS, .BEQ, .BMI, .BNE, .BPL, .BVC, .BVS,
        .NOP, .CLC, .CLD, .CLI, .CLV, .SEC, .SED, .SEI, .BRK] → t.p.z = s.p.z ∧ t.p.n = s.p.n)

/-- 10_state.md R23, R26: no instruction touches the interrupt latch, the halt record, the IRQ input or the parameters,
and none but BRK the skip bit. That BRK sets the skip bit is the model's inference (log entry 13). -/
def Obligations.HiddenStateFrame : Prop :=
  ∀ (i : Instr) (s t : State), exec i s = .next t →
    t.nmiPending = s.nmiPending ∧ t.skipPoll = (if isOne i [.BRK] then true else s.skipPoll) ∧ t.halted = s.halted ∧
    t.irq = s.irq ∧ t.config = s.config

/-- An instruction that neither stores nor pushes leaves every byte of memory, those no address reaches included. -/
def Obligations.MemoryFrameOfNonStoringInstructions : Prop :=
  ∀ (i : Instr) (s t : State), storesAtAddress i = false → pushes i = false → exec i s = .next t →
    t.mem = s.mem

/-- A store or a read-modify-write of memory changes the byte at its effective address and no other byte, and no
register but P; with EXT_BUS = external a store to the external region changes no byte at all. -/
def Obligations.StoringInstructionsChangeOneByte : Prop :=
  ∀ (i : Instr) (s t : State) (f : AddrForm), storesAtAddress i = true → addrFormOf i = some f → exec i s = .next t →
    (∀ j, j ≠ cellIndex (resolve f s).ea → t.mem.read j = s.mem.read j) ∧
    (s.hostAnswers (resolve f s).ea = true → t.mem = s.mem) ∧
    t.a = s.a ∧ t.x = s.x ∧ t.y = s.y ∧ t.sp = s.sp ∧ t.pc = s.pc

/-- A pushing instruction changes only the stack bytes it pushes: one for PHA and PHP, two for JSR, three for BRK. -/
def Obligations.PushingInstructionsChangeStackBytesOnly : Prop :=
  ∀ (i : Instr) (s t : State) (n : Nat),
    (isOne i [.PHA, .PHP] ∧ n = 1 ∨ isOne i [.JSR] ∧ n = 2 ∨ isOne i [.BRK] ∧ n = 3) → exec i s = .next t →
    t.a = s.a ∧ t.x = s.x ∧ t.y = s.y ∧ t.sp = s.sp - BitVec.ofNat 8 n ∧
    ∀ j, (∀ k, k < n → j ≠ stackBelow s k) → t.mem.read j = s.mem.read j

/-! ### Reset, sessions and invariants -/

/-- 70_reset_and_hazards.md R152, R153, R154: reset of any state. That it leaves the parameters is DEDUCED from
10_state.md R26 (log entry 9); what a vector read delivers to the host is kept as log entry 4 says. -/
def Obligations.ResetSetsDefaults : Prop :=
  ∀ s : State,
    let t := hostReset s
    t.p.toByte = 0x24 ∧ t.cycles = 0 ∧ t.a = 0 ∧ t.x = 0 ∧ t.y = 0 ∧ t.sp = 0xFD ∧ t.nmiPending = false ∧
    t.iPoll = true ∧ t.skipPoll = false ∧ t.halted = none ∧ t.mem = s.mem ∧ t.config = s.config ∧
    (s.config.resetEntry = .vector →
      let lo := memRead 0xFFFC s
      let hi := memRead 0xFFFD lo.state
      t.pc.toNat = lo.value.toNat + 256 * hi.value.toNat ∧ t.extLog = hi.state.extLog) ∧
    (∀ e, s.config.resetEntry = .fixed e → t.pc = e ∧ t.extLog = s.extLog)

/-- A power-on with the default parameters is the model's `State.reset` with the image in memory and PC at the word its
reset vector holds (log entries 1 and 2). -/
def Obligations.PowerOnStartsAtResetVector : Prop :=
  ∀ image : Memory,
    powerOn Config.default image =
      { State.reset with mem := image, pc := makeWord (image.read 0xFFFC) (image.read 0xFFFD) }

/-- The state after reset meets the invariant. -/
def Obligations.ResetMeetsInvariant : Prop := State.reset.Inv ∧ State.reset.halted = none

/-- Every step that answers a next state keeps the invariant, and the core is not halted before or after it. -/
def Obligations.EveryStepKeepsInvariant : Prop :=
  ∀ s t : State, s.Inv → step s = .next t → t.Inv ∧ s.halted = none ∧ t.halted = none

/-- Every event, the core's own step or what the host does between steps, keeps the invariant from every state that meets
it, and the parameters (10_state.md R26); a power-on with a canonical image meets it; so every session does. The model's
choices here are log entries 1, 4, 6, 9 and 10. -/
def Obligations.EverySessionKeepsInvariant : Prop :=
  (∀ (s : State) (e : Event), s.Inv → (e.apply s).Inv ∧ (e.apply s).config = s.config) ∧
  (∀ (config : Config) (image : Memory), image.wf = true →
    (powerOn config image).Inv ∧ (powerOn config image).config = config) ∧
  ∀ (config : Config) (image : Memory) (events : List Event), image.wf = true →
    let t := runEvents events (powerOn config image)
    t.Inv ∧ t.config = config
end

