-- ==== Sys2Proof/Laws/Bits.lean ====
section
/-! SUPPORT. Laws/Bits.lean: what the byte-order and extension helpers do, as arithmetic. -/

namespace Sys2Proof.Machine

theorem zext16_toNat (b : Byte) : (zext16 b).toNat = b.toNat := by
  simp [zext16, BitVec.toNat_setWidth]; omega

theorem loByte_toNat (w : Word) : (loByte w).toNat = w.toNat % 256 := by
  simp [loByte, BitVec.toNat_setWidth]

theorem hiByte_toNat (w : Word) : (hiByte w).toNat = w.toNat / 256 := by
  have := w.isLt
  simp [hiByte, BitVec.toNat_setWidth, Nat.shiftRight_eq_div_pow]; omega

theorem makeWord_toNat (lo hi : Byte) : (makeWord lo hi).toNat = lo.toNat + 256 * hi.toNat := by
  have hl := lo.isLt
  have hh := hi.isLt
  have shift : (zext16 hi <<< 8).toNat = hi.toNat <<< 8 := by
    simp [BitVec.toNat_shiftLeft, zext16_toNat, Nat.shiftLeft_eq]; omega
  rw [makeWord, BitVec.toNat_or, zext16_toNat, shift, Nat.lor_comm, ← Nat.shiftLeft_add_eq_or_of_lt hl]
  simp [Nat.shiftLeft_eq]; omega

@[simp] theorem makeWord_loByte_hiByte (w : Word) : makeWord (loByte w) (hiByte w) = w := by
  apply BitVec.eq_of_toNat_eq
  rw [makeWord_toNat, loByte_toNat, hiByte_toNat]; omega

@[simp] theorem loByte_makeWord (lo hi : Byte) : loByte (makeWord lo hi) = lo := by
  have := lo.isLt
  apply BitVec.eq_of_toNat_eq
  rw [loByte_toNat, makeWord_toNat]; omega

@[simp] theorem hiByte_makeWord (lo hi : Byte) : hiByte (makeWord lo hi) = hi := by
  have := lo.isLt
  apply BitVec.eq_of_toNat_eq
  rw [hiByte_toNat, makeWord_toNat]; omega

theorem crossesPage_iff (a b : Word) : crossesPage a b = true ↔ a.toNat / 256 ≠ b.toNat / 256 := by
  simp [crossesPage, ← BitVec.toNat_inj, Nat.shiftRight_eq_div_pow]

end Sys2Proof.Machine
end

