-- ==== Sys2Proof/Laws/Decode.lean ====
section
/-! SUPPORT. Laws/Decode.lean: what the decoder does with the bytes after an opcode, by the opcode's form. -/

namespace Sys2Proof

theorem decode_implied {op : Byte} {i : Instr} (h : opcodeForm op = some (.implied i)) (rest : List Byte) :
    decode (op :: rest) = .ok (i, rest) := by
  simp [decode, h]

theorem decode_byte {op : Byte} {mk : Byte → Instr} (h : opcodeForm op = some (.byteOperand mk)) (nn : Byte) (rest : List Byte) :
    decode (op :: nn :: rest) = .ok (mk nn, rest) := by
  simp [decode, h]

theorem decode_word {op : Byte} {mk : Word → Instr} (h : opcodeForm op = some (.wordOperand mk)) (ll hh : Byte)
    (rest : List Byte) : decode (op :: ll :: hh :: rest) = .ok (mk (Machine.makeWord ll hh), rest) := by
  simp [decode, h]

/-- A word's two bytes, low byte first, decode to that word. -/
theorem decode_word_bytes {op : Byte} {mk : Word → Instr} (h : opcodeForm op = some (.wordOperand mk)) (w : Word)
    (rest : List Byte) : decode (op :: Machine.loByte w :: Machine.hiByte w :: rest) = .ok (mk w, rest) := by
  rw [decode_word h, Machine.makeWord_loByte_hiByte]

theorem decode_illegal {op : Byte} (h : opcodeForm op = none) (rest : List Byte) :
    decode (op :: rest) = .error (.illegalOpcode op) := by
  simp [decode, h]

/-- All that a successful decoding can have met. -/
theorem decode_cases {bytes rest : List Byte} {i : Instr} (h : decode bytes = .ok (i, rest)) :
    ∃ op tail, bytes = op :: tail ∧
      ((opcodeForm op = some (.implied i) ∧ tail = rest) ∨
       (∃ mk nn, opcodeForm op = some (.byteOperand mk) ∧ tail = nn :: rest ∧ i = mk nn) ∨
       (∃ mk ll hh, opcodeForm op = some (.wordOperand mk) ∧ tail = ll :: hh :: rest ∧ i = mk (Machine.makeWord ll hh))) := by
  cases bytes with
  | nil => simp [decode] at h
  | cons op tail =>
    refine ⟨op, tail, rfl, ?_⟩
    simp only [decode] at h
    split at h <;> simp_all

end Sys2Proof
end

