-- ==== Sys2Proof/Laws/Memory.lean ====
section
/-! SUPPORT. Laws/Memory.lean: the backing store reads what was written last, and stays canonical. -/

namespace Sys2Proof.Machine

theorem Memory.read_erase (m : Memory) (i j : Nat) : (m.erase i).read j = if j = i then unlistedByte else m.read j := by
  induction m with
  | nil => simp [Memory.erase, Memory.read]
  | cons kv rest ih =>
    obtain ⟨k, w⟩ := kv
    unfold Memory.erase at ih ⊢
    by_cases hk : k = i
    · subst hk; by_cases hj : j = k <;> simp_all [Memory.read]
    · by_cases hj : j = k <;> simp_all [Memory.read]

theorem Memory.read_insert {m : Memory} {i : Nat} (hm : ∀ cell ∈ m, cell.1 ≠ i) (j : Nat) (v : Byte) :
    (Memory.insert i v m).read j = if j = i then v else m.read j := by
  induction m with
  | nil => simp [Memory.insert, Memory.read]
  | cons kv rest ih =>
    obtain ⟨k, w⟩ := kv
    have hk : k ≠ i := hm (k, w) (by simp)
    have ih := ih fun cell hc => hm cell (by simp [hc])
    rw [Memory.insert]
    split
    · simp [Memory.read]
    · rw [Memory.read, Memory.read, ih]
      by_cases hj : j = k
      · subst hj; simp [hk]
      · simp [hj]

theorem Memory.mem_erase_ne (m : Memory) (i : Nat) : ∀ cell ∈ m.erase i, cell.1 ≠ i := by
  intro cell hc
  simpa using (List.mem_filter.mp hc).2

/-- The written index reads the new byte, every other index reads as before. -/
theorem Memory.read_write (m : Memory) (i j : Nat) (v : Byte) : (m.write i v).read j = if j = i then v else m.read j := by
  unfold Memory.write
  split
  · rename_i hv; rw [Memory.read_erase, hv]
  · rw [Memory.read_insert (Memory.mem_erase_ne m i), Memory.read_erase]
    split <;> rfl

@[simp] theorem Memory.read_write_same (m : Memory) (i : Nat) (v : Byte) : (m.write i v).read i = v := by
  simp [Memory.read_write]

theorem Memory.read_write_other (m : Memory) {i j : Nat} (hj : j ≠ i) (v : Byte) : (m.write i v).read j = m.read j := by
  simp [Memory.read_write, hj]

theorem Memory.wfFrom_mono {lo lo' : Nat} {m : Memory} (h : Memory.wfFrom lo m = true) (hle : lo' ≤ lo) :
    Memory.wfFrom lo' m = true := by
  cases m with
  | nil => rfl
  | cons kv rest =>
    simp only [Memory.wfFrom, Bool.and_eq_true, decide_eq_true_eq] at h ⊢
    exact ⟨⟨⟨by omega, h.1.1.2⟩, h.1.2⟩, h.2⟩

theorem Memory.erase_wfFrom {m : Memory} {lo : Nat} (h : Memory.wfFrom lo m = true) (i : Nat) :
    Memory.wfFrom lo (m.erase i) = true := by
  induction m generalizing lo with
  | nil => rfl
  | cons kv rest ih =>
    obtain ⟨k, w⟩ := kv
    simp only [Memory.wfFrom, Bool.and_eq_true, decide_eq_true_eq] at h
    have hrest := ih h.2
    unfold Memory.erase at hrest ⊢
    by_cases hk : k = i
    · simpa [hk] using Memory.wfFrom_mono hrest (by omega)
    · simp_all [Memory.wfFrom]

theorem Memory.insert_wfFrom {m : Memory} {lo i : Nat} {v : Byte} (h : Memory.wfFrom lo m = true)
    (hm : ∀ cell ∈ m, cell.1 ≠ i) (hlo : lo ≤ i) (hi : i < storeSize) (hv : v ≠ unlistedByte) :
    Memory.wfFrom lo (Memory.insert i v m) = true := by
  induction m generalizing lo with
  | nil => simp [Memory.insert, Memory.wfFrom, hlo, hi, hv]
  | cons kv rest ih =>
    obtain ⟨k, w⟩ := kv
    have hk : k ≠ i := hm (k, w) (by simp)
    have hrest : ∀ cell ∈ rest, cell.1 ≠ i := fun cell hc => hm cell (by simp [hc])
    simp only [Memory.wfFrom, Bool.and_eq_true, decide_eq_true_eq] at h
    rw [Memory.insert]
    split
    · simp only [Memory.wfFrom, Bool.and_eq_true, decide_eq_true_eq]
      exact ⟨⟨⟨hlo, hi⟩, hv⟩, ⟨⟨by omega, h.1.1.2⟩, h.1.2⟩, h.2⟩
    · simp only [Memory.wfFrom, Bool.and_eq_true, decide_eq_true_eq]
      exact ⟨h.1, ih h.2 hrest (by omega)⟩

/-- Every write inside the store keeps the canonical form. -/
theorem Memory.write_wf {m : Memory} {i : Nat} (h : m.wf = true) (hi : i < storeSize) (v : Byte) :
    (m.write i v).wf = true := by
  unfold Memory.write
  split
  · exact Memory.erase_wfFrom h i
  · exact Memory.insert_wfFrom (Memory.erase_wfFrom h i) (Memory.mem_erase_ne m i) (Nat.zero_le i) hi ‹_›

end Sys2Proof.Machine
end

