-- ==== Sys2Proof/Laws/Ops.lean ====
section
/-! SUPPORT. Laws/Ops.lean: what the bus, the stack engine and the exception operations do: one lemma that says all
of it, and the fields each leaves alone. -/

namespace Sys2Proof.Machine

/-! ### The decoder -/

theorem decodeAddr_ram {a : Word} (h : a.toNat ≤ 0x1FFF) : decodeAddr a = .ram (a.toNat % 0x800) := by
  have mask : (a &&& 0x07FF).toNat = a.toNat % 0x800 := by
    rw [BitVec.toNat_and]; exact Nat.and_two_pow_sub_one_eq_mod a.toNat 11
  have le : a ≤ 0x1FFF := h
  rw [decodeAddr, if_pos le, mask]

theorem decodeAddr_ext {a : Word} (h : 0x1FFF < a.toNat) : decodeAddr a = .ext a := by
  have : ¬ a ≤ 0x1FFF := fun le => absurd (show a.toNat ≤ 0x1FFF from le) (by omega)
  rw [decodeAddr, if_neg this]

theorem cellIndex_ram {a : Word} (h : a.toNat ≤ 0x1FFF) : cellIndex a = a.toNat % 0x800 := by
  rw [cellIndex, decodeAddr_ram h]

theorem cellIndex_ext {a : Word} (h : 0x1FFF < a.toNat) : cellIndex a = a.toNat := by
  rw [cellIndex, decodeAddr_ext h]

theorem cellIndex_eq (a : Word) : cellIndex a = if a.toNat ≤ 0x1FFF then a.toNat % 0x800 else a.toNat := by
  split
  · exact cellIndex_ram ‹_›
  · exact cellIndex_ext (by omega)

theorem cellIndex_lt (a : Word) : cellIndex a < storeSize := by
  have := a.isLt
  rw [cellIndex_eq, storeSize]; split <;> omega

theorem hostAnswers_iff (s : State) (a : Word) : s.hostAnswers a = true ↔ s.config.extBus = .external ∧ 0x1FFF < a.toNat := by
  simp [State.hostAnswers, BitVec.lt_def]

theorem hostAnswers_congr {s t : State} (h : t.config = s.config) (a : Word) : t.hostAnswers a = s.hostAnswers a := by
  simp [State.hostAnswers, h]

/-- In RAM the host never answers. -/
theorem hostAnswers_ram (s : State) {a : Word} (h : a.toNat ≤ 0x1FFF) : s.hostAnswers a = false := by
  rw [Bool.eq_false_iff, Ne, hostAnswers_iff]; omega

/-- With EXT_BUS = flat the host never answers. -/
theorem hostAnswers_flat {s : State} (h : s.config.extBus = .flat) (a : Word) : s.hostAnswers a = false := by
  simp [State.hostAnswers, h]

/-! ### One byte of the bus -/

/-- All a bus read does: the host's answer with its delivery, or the stored byte and no change. -/
theorem memRead_eq (a : Word) (s : State) :
    memRead a s =
      if s.hostAnswers a then
        ⟨Config.extAnswer s.extReads a,
          { s with extReads := s.extReads + 1, extLog := .read a (Config.extAnswer s.extReads a) :: s.extLog }⟩
      else ⟨s.peek a, s⟩ := by
  rcases Nat.lt_or_ge 0x1FFF a.toNat with h | h
  · cases he : s.config.extBus
    · simp [hostAnswers_flat he, memRead, decodeAddr_ext h, extRead, he, State.peek, cellIndex_ext h]
    · simp [(hostAnswers_iff s a).mpr ⟨he, h⟩, memRead, decodeAddr_ext h, extRead, he]
  · simp [hostAnswers_ram s h, memRead, decodeAddr_ram h, State.peek, cellIndex_ram h]

/-- All a bus write does: a delivery to the host, or one byte of the store. -/
theorem memWrite_eq (a : Word) (v : Byte) (s : State) :
    memWrite a v s =
      if s.hostAnswers a then { s with extLog := .write a v :: s.extLog }
      else { s with mem := s.mem.write (cellIndex a) v } := by
  rcases Nat.lt_or_ge 0x1FFF a.toNat with h | h
  · cases he : s.config.extBus
    · simp [hostAnswers_flat he, memWrite, decodeAddr_ext h, extWrite, he, cellIndex_ext h]
    · simp [(hostAnswers_iff s a).mpr ⟨he, h⟩, memWrite, decodeAddr_ext h, extWrite, he]
  · simp [hostAnswers_ram s h, memWrite, decodeAddr_ram h, cellIndex_ram h]

theorem memRead_quiet {a : Word} {s : State} (h : s.hostAnswers a = false) : memRead a s = ⟨s.peek a, s⟩ := by
  simp [memRead_eq, h]

theorem memWrite_quiet {a : Word} {s : State} (h : s.hostAnswers a = false) (v : Byte) :
    memWrite a v s = { s with mem := s.mem.write (cellIndex a) v } := by
  simp [memWrite_eq, h]

@[simp] theorem memRead_a (a : Word) (s : State) : (memRead a s).state.a = s.a := by
  rw [memRead_eq]; split <;> rfl
@[simp] theorem memRead_x (a : Word) (s : State) : (memRead a s).state.x = s.x := by
  rw [memRead_eq]; split <;> rfl
@[simp] theorem memRead_y (a : Word) (s : State) : (memRead a s).state.y = s.y := by
  rw [memRead_eq]; split <;> rfl
@[simp] theorem memRead_sp (a : Word) (s : State) : (memRead a s).state.sp = s.sp := by
  rw [memRead_eq]; split <;> rfl
@[simp] theorem memRead_pc (a : Word) (s : State) : (memRead a s).state.pc = s.pc := by
  rw [memRead_eq]; split <;> rfl
@[simp] theorem memRead_p (a : Word) (s : State) : (memRead a s).state.p = s.p := by
  rw [memRead_eq]; split <;> rfl
@[simp] theorem memRead_cycles (a : Word) (s : State) : (memRead a s).state.cycles = s.cycles := by
  rw [memRead_eq]; split <;> rfl
@[simp] theorem memRead_nmiPending (a : Word) (s : State) : (memRead a s).state.nmiPending = s.nmiPending := by
  rw [memRead_eq]; split <;> rfl
@[simp] theorem memRead_iPoll (a : Word) (s : State) : (memRead a s).state.iPoll = s.iPoll := by
  rw [memRead_eq]; split <;> rfl
@[simp] theorem memRead_skipPoll (a : Word) (s : State) : (memRead a s).state.skipPoll = s.skipPoll := by
  rw [memRead_eq]; split <;> rfl
@[simp] theorem memRead_halted (a : Word) (s : State) : (memRead a s).state.halted = s.halted := by
  rw [memRead_eq]; split <;> rfl
@[simp] theorem memRead_irq (a : Word) (s : State) : (memRead a s).state.irq = s.irq := by
  rw [memRead_eq]; split <;> rfl
@[simp] theorem memRead_mem (a : Word) (s : State) : (memRead a s).state.mem = s.mem := by
  rw [memRead_eq]; split <;> rfl
@[simp] theorem memRead_config (a : Word) (s : State) : (memRead a s).state.config = s.config := by
  rw [memRead_eq]; split <;> rfl

@[simp] theorem memWrite_a (a : Word) (v : Byte) (s : State) : (memWrite a v s).a = s.a := by
  rw [memWrite_eq]; split <;> rfl
@[simp] theorem memWrite_x (a : Word) (v : Byte) (s : State) : (memWrite a v s).x = s.x := by
  rw [memWrite_eq]; split <;> rfl
@[simp] theorem memWrite_y (a : Word) (v : Byte) (s : State) : (memWrite a v s).y = s.y := by
  rw [memWrite_eq]; split <;> rfl
@[simp] theorem memWrite_sp (a : Word) (v : Byte) (s : State) : (memWrite a v s).sp = s.sp := by
  rw [memWrite_eq]; split <;> rfl
@[simp] theorem memWrite_pc (a : Word) (v : Byte) (s : State) : (memWrite a v s).pc = s.pc := by
  rw [memWrite_eq]; split <;> rfl
@[simp] theorem memWrite_p (a : Word) (v : Byte) (s : State) : (memWrite a v s).p = s.p := by
  rw [memWrite_eq]; split <;> rfl
@[simp] theorem memWrite_cycles (a : Word) (v : Byte) (s : State) : (memWrite a v s).cycles = s.cycles := by
  rw [memWrite_eq]; split <;> rfl
@[simp] theorem memWrite_nmiPending (a : Word) (v : Byte) (s : State) : (memWrite a v s).nmiPending = s.nmiPending := by
  rw [memWrite_eq]; split <;> rfl
@[simp] theorem memWrite_iPoll (a : Word) (v : Byte) (s : State) : (memWrite a v s).iPoll = s.iPoll := by
  rw [memWrite_eq]; split <;> rfl
@[simp] theorem memWrite_skipPoll (a : Word) (v : Byte) (s : State) : (memWrite a v s).skipPoll = s.skipPoll := by
  rw [memWrite_eq]; split <;> rfl
@[simp] theorem memWrite_halted (a : Word) (v : Byte) (s : State) : (memWrite a v s).halted = s.halted := by
  rw [memWrite_eq]; split <;> rfl
@[simp] theorem memWrite_irq (a : Word) (v : Byte) (s : State) : (memWrite a v s).irq = s.irq := by
  rw [memWrite_eq]; split <;> rfl
@[simp] theorem memWrite_extReads (a : Word) (v : Byte) (s : State) : (memWrite a v s).extReads = s.extReads := by
  rw [memWrite_eq]; split <;> rfl
@[simp] theorem memWrite_config (a : Word) (v : Byte) (s : State) : (memWrite a v s).config = s.config := by
  rw [memWrite_eq]; split <;> rfl

@[simp] theorem memRead_peek (a b : Word) (s : State) : (memRead a s).state.peek b = s.peek b := by
  simp [State.peek]

/-- What a bus write leaves at every index of the store, reachable or not. -/
theorem memWrite_read (a : Word) (v : Byte) (s : State) (j : Nat) :
    (memWrite a v s).mem.read j = if j = cellIndex a ∧ s.hostAnswers a = false then v else s.mem.read j := by
  rw [memWrite_eq]
  cases s.hostAnswers a <;> simp [Memory.read_write]

/-- What a bus write leaves behind every address. -/
theorem memWrite_peek (a b : Word) (v : Byte) (s : State) :
    (memWrite a v s).peek b = if cellIndex b = cellIndex a ∧ s.hostAnswers a = false then v else s.peek b :=
  memWrite_read a v s (cellIndex b)

theorem memWrite_wf {s : State} (h : s.mem.wf = true) (a : Word) (v : Byte) : (memWrite a v s).mem.wf = true := by
  rw [memWrite_eq]
  split
  · exact h
  · exact Memory.write_wf h (cellIndex_lt a) v

/-! ### Words -/

@[simp] theorem readWord_a (lo hi : Word) (s : State) : (readWord lo hi s).state.a = s.a := by
  simp [readWord]
@[simp] theorem readWord_x (lo hi : Word) (s : State) : (readWord lo hi s).state.x = s.x := by
  simp [readWord]
@[simp] theorem readWord_y (lo hi : Word) (s : State) : (readWord lo hi s).state.y = s.y := by
  simp [readWord]
@[simp] theorem readWord_sp (lo hi : Word) (s : State) : (readWord lo hi s).state.sp = s.sp := by
  simp [readWord]
@[simp] theorem readWord_pc (lo hi : Word) (s : State) : (readWord lo hi s).state.pc = s.pc := by
  simp [readWord]
@[simp] theorem readWord_p (lo hi : Word) (s : State) : (readWord lo hi s).state.p = s.p := by
  simp [readWord]
@[simp] theorem readWord_cycles (lo hi : Word) (s : State) : (readWord lo hi s).state.cycles = s.cycles := by
  simp [readWord]
@[simp] theorem readWord_nmiPending (lo hi : Word) (s : State) : (readWord lo hi s).state.nmiPending = s.nmiPending := by
  simp [readWord]
@[simp] theorem readWord_iPoll (lo hi : Word) (s : State) : (readWord lo hi s).state.iPoll = s.iPoll := by
  simp [readWord]
@[simp] theorem readWord_skipPoll (lo hi : Word) (s : State) : (readWord lo hi s).state.skipPoll = s.skipPoll := by
  simp [readWord]
@[simp] theorem readWord_halted (lo hi : Word) (s : State) : (readWord lo hi s).state.halted = s.halted := by
  simp [readWord]
@[simp] theorem readWord_irq (lo hi : Word) (s : State) : (readWord lo hi s).state.irq = s.irq := by
  simp [readWord]
@[simp] theorem readWord_mem (lo hi : Word) (s : State) : (readWord lo hi s).state.mem = s.mem := by
  simp [readWord]
@[simp] theorem readWord_config (lo hi : Word) (s : State) : (readWord lo hi s).state.config = s.config := by
  simp [readWord]

/-- Two reads the host does not answer: the two stored bytes, no change. -/
theorem readWord_quiet {lo hi : Word} {s : State} (hl : s.hostAnswers lo = false) (hh : s.hostAnswers hi = false) :
    readWord lo hi s = ⟨makeWord (s.peek lo) (s.peek hi), s⟩ := by
  simp [readWord, memRead_quiet hl, memRead_quiet hh]

/-! ### The stack engine -/

theorem stackAddr_toNat (sp : Byte) : (stackAddr sp).toNat = 0x100 + sp.toNat := by
  have h := sp.isLt
  rw [stackAddr, BitVec.toNat_or, zext16_toNat]
  show 1 <<< 8 ||| sp.toNat = _
  rw [← Nat.shiftLeft_add_eq_or_of_lt h]; rfl

theorem cellIndex_stackAddr (sp : Byte) : cellIndex (stackAddr sp) = 0x100 + sp.toNat := by
  have := sp.isLt
  rw [cellIndex_eq, stackAddr_toNat, if_pos (by omega)]; omega

@[simp] theorem hostAnswers_stackAddr (s : State) (sp : Byte) : s.hostAnswers (stackAddr sp) = false := by
  have := sp.isLt
  exact hostAnswers_ram s (by rw [stackAddr_toNat]; omega)

/-- All a push does: one byte of page 1, and SP. -/
theorem push_eq (v : Byte) (s : State) :
    push v s = { s with mem := s.mem.write (0x100 + s.sp.toNat) v, sp := s.sp - 1 } := by
  simp [push, memWrite_quiet, cellIndex_stackAddr]

/-- All a pull does: SP, and the byte it then designates. -/
theorem pull_eq (s : State) :
    pull s = ⟨s.mem.read (0x100 + (s.sp + 1).toNat), { s with sp := s.sp + 1 }⟩ := by
  have h : State.hostAnswers { s with sp := s.sp + 1 } (stackAddr (s.sp + 1)) = false := hostAnswers_stackAddr _ _
  rw [pull, memRead_quiet h, State.peek, cellIndex_stackAddr]

theorem pushWord_eq (w : Word) (s : State) :
    pushWord w s =
      { s with
        mem := (s.mem.write (0x100 + s.sp.toNat) (hiByte w)).write (0x100 + (s.sp - 1).toNat) (loByte w)
        sp := s.sp - 1 - 1 } := by
  simp [pushWord, push_eq]

theorem pullWord_eq (s : State) :
    pullWord s =
      ⟨makeWord (s.mem.read (0x100 + (s.sp + 1).toNat)) (s.mem.read (0x100 + (s.sp + 1 + 1).toNat)),
        { s with sp := s.sp + 1 + 1 }⟩ := by
  simp [pullWord, pull_eq]

/-! ### Taking an exception and returning from one -/

/-- The state before the vector is read: PC and the status byte on the stack, I set. -/
theorem enterHandler_eq (status : Byte) (vector : Word) (s : State) :
    enterHandler status vector s =
      (let t := push status (pushWord s.pc s)
       let r := readWord vector (vector + 1) { t with p := { t.p with i := true } }
       { r.state with pc := r.value, skipPoll := true }) := rfl

/-- All a return from a handler does: SP, P and PC from the three stack bytes above SP. -/
theorem returnFromHandler_eq (s : State) :
    returnFromHandler s =
      { s with
        sp := s.sp + 1 + 1 + 1
        p := Status.ofByte (s.mem.read (0x100 + (s.sp + 1).toNat))
        pc := makeWord (s.mem.read (0x100 + (s.sp + 1 + 1).toNat)) (s.mem.read (0x100 + (s.sp + 1 + 1 + 1).toNat)) } := by
  simp [returnFromHandler, pull_eq, pullWord_eq]

@[simp] theorem enterHandler_a (status : Byte) (vector : Word) (s : State) : (enterHandler status vector s).a = s.a := by
  simp [enterHandler, push_eq, pushWord_eq]
@[simp] theorem enterHandler_x (status : Byte) (vector : Word) (s : State) : (enterHandler status vector s).x = s.x := by
  simp [enterHandler, push_eq, pushWord_eq]
@[simp] theorem enterHandler_y (status : Byte) (vector : Word) (s : State) : (enterHandler status vector s).y = s.y := by
  simp [enterHandler, push_eq, pushWord_eq]
@[simp] theorem enterHandler_cycles (status : Byte) (vector : Word) (s : State) : (enterHandler status vector s).cycles = s.cycles := by
  simp [enterHandler, push_eq, pushWord_eq]
@[simp] theorem enterHandler_nmiPending (status : Byte) (vector : Word) (s : State) : (enterHandler status vector s).nmiPending = s.nmiPending := by
  simp [enterHandler, push_eq, pushWord_eq]
@[simp] theorem enterHandler_iPoll (status : Byte) (vector : Word) (s : State) : (enterHandler status vector s).iPoll = s.iPoll := by
  simp [enterHandler, push_eq, pushWord_eq]
@[simp] theorem enterHandler_skipPoll (status : Byte) (vector : Word) (s : State) : (enterHandler status vector s).skipPoll = true := by
  simp [enterHandler]
@[simp] theorem enterHandler_halted (status : Byte) (vector : Word) (s : State) : (enterHandler status vector s).halted = s.halted := by
  simp [enterHandler, push_eq, pushWord_eq]
@[simp] theorem enterHandler_irq (status : Byte) (vector : Word) (s : State) : (enterHandler status vector s).irq = s.irq := by
  simp [enterHandler, push_eq, pushWord_eq]
@[simp] theorem enterHandler_config (status : Byte) (vector : Word) (s : State) : (enterHandler status vector s).config = s.config := by
  simp [enterHandler, push_eq, pushWord_eq]

@[simp] theorem enterHandler_sp (status : Byte) (vector : Word) (s : State) :
    (enterHandler status vector s).sp = s.sp - 1 - 1 - 1 := by
  simp [enterHandler, push_eq, pushWord_eq]

@[simp] theorem enterHandler_p (status : Byte) (vector : Word) (s : State) :
    (enterHandler status vector s).p = { s.p with i := true } := by
  simp [enterHandler, push_eq, pushWord_eq]

theorem enterHandler_mem (status : Byte) (vector : Word) (s : State) :
    (enterHandler status vector s).mem =
      ((s.mem.write (0x100 + s.sp.toNat) (hiByte s.pc)).write (0x100 + (s.sp - 1).toNat) (loByte s.pc)).write
        (0x100 + (s.sp - 1 - 1).toNat) status := by
  simp [enterHandler, push_eq, pushWord_eq]

/-- What a poll takes, and when it takes nothing. -/
theorem pollInterrupt_eq_none (s : State) :
    pollInterrupt s = none ↔ s.skipPoll = true ∨ (s.nmiPending = false ∧ (s.irq = false ∨ s.iPoll = true)) := by
  cases h1 : s.skipPoll <;> cases h2 : s.nmiPending <;> cases h3 : s.irq <;> cases h4 : s.iPoll <;>
    simp [pollInterrupt, h1, h2, h3, h4]

end Sys2Proof.Machine
end

