-- ==== Sys2Proof/Laws/Operands.lean ====
section
/-! SUPPORT. Laws/Operands.lean: the resolver changes no state, and what an operand read, a store and a
read-modify-write do, said once. -/

namespace Sys2Proof.Machine

/-- A pointer in the zero page is read without the host. -/
theorem zeroPagePointer_eq (p : Byte) (s : State) :
    zeroPagePointer p s = ⟨makeWord (s.peek (zext16 p)) (s.peek (zext16 (p + 1))), s⟩ := by
  have ram : ∀ b : Byte, s.hostAnswers (zext16 b) = false := by
    intro b
    have := b.isLt
    exact hostAnswers_ram s (by rw [zext16_toNat]; omega)
  exact readWord_quiet (ram p) (ram (p + 1))

/-- Every mode's pointer reads are reads of RAM: the resolver leaves the state as it was. -/
@[simp] theorem resolve_state (f : AddrForm) (s : State) : (resolve f s).state = s := by
  cases f <;> simp [resolve, indexed, zeroPagePointer_eq]

/-- The effective address, mode by mode. -/
theorem resolve_ea (f : AddrForm) (s : State) :
    (resolve f s).ea =
      match f with
      | .zp nn => zext16 nn
      | .zpx nn => zext16 (nn + s.x)
      | .zpy nn => zext16 (nn + s.y)
      | .abs addr => addr
      | .absx base => base + zext16 s.x
      | .absy base => base + zext16 s.y
      | .indx nn => makeWord (s.peek (zext16 (nn + s.x))) (s.peek (zext16 (nn + s.x + 1)))
      | .indy nn => makeWord (s.peek (zext16 nn)) (s.peek (zext16 (nn + 1))) + zext16 s.y := by
  cases f <;> simp [resolve, indexed, zeroPagePointer_eq]

/-- An operand read is one byte of the bus, or none. -/
theorem readOperand_state (f : ReadForm) (s : State) :
    (readOperand f s).state = s ∨ ∃ a, (readOperand f s).state = (memRead a s).state := by
  cases f with
  | imm v => exact .inl rfl
  | mem form => exact .inr ⟨(resolve form s).ea, by simp [readOperand]⟩

@[simp] theorem readOperand_a (g : ReadForm) (s : State) : (readOperand g s).state.a = s.a := by
  rcases readOperand_state g s with h | ⟨a, h⟩ <;> simp [h]
@[simp] theorem readOperand_x (g : ReadForm) (s : State) : (readOperand g s).state.x = s.x := by
  rcases readOperand_state g s with h | ⟨a, h⟩ <;> simp [h]
@[simp] theorem readOperand_y (g : ReadForm) (s : State) : (readOperand g s).state.y = s.y := by
  rcases readOperand_state g s with h | ⟨a, h⟩ <;> simp [h]
@[simp] theorem readOperand_sp (g : ReadForm) (s : State) : (readOperand g s).state.sp = s.sp := by
  rcases readOperand_state g s with h | ⟨a, h⟩ <;> simp [h]
@[simp] theorem readOperand_pc (g : ReadForm) (s : State) : (readOperand g s).state.pc = s.pc := by
  rcases readOperand_state g s with h | ⟨a, h⟩ <;> simp [h]
@[simp] theorem readOperand_p (g : ReadForm) (s : State) : (readOperand g s).state.p = s.p := by
  rcases readOperand_state g s with h | ⟨a, h⟩ <;> simp [h]
@[simp] theorem readOperand_cycles (g : ReadForm) (s : State) : (readOperand g s).state.cycles = s.cycles := by
  rcases readOperand_state g s with h | ⟨a, h⟩ <;> simp [h]
@[simp] theorem readOperand_nmiPending (g : ReadForm) (s : State) : (readOperand g s).state.nmiPending = s.nmiPending := by
  rcases readOperand_state g s with h | ⟨a, h⟩ <;> simp [h]
@[simp] theorem readOperand_iPoll (g : ReadForm) (s : State) : (readOperand g s).state.iPoll = s.iPoll := by
  rcases readOperand_state g s with h | ⟨a, h⟩ <;> simp [h]
@[simp] theorem readOperand_skipPoll (g : ReadForm) (s : State) : (readOperand g s).state.skipPoll = s.skipPoll := by
  rcases readOperand_state g s with h | ⟨a, h⟩ <;> simp [h]
@[simp] theorem readOperand_halted (g : ReadForm) (s : State) : (readOperand g s).state.halted = s.halted := by
  rcases readOperand_state g s with h | ⟨a, h⟩ <;> simp [h]
@[simp] theorem readOperand_irq (g : ReadForm) (s : State) : (readOperand g s).state.irq = s.irq := by
  rcases readOperand_state g s with h | ⟨a, h⟩ <;> simp [h]
@[simp] theorem readOperand_mem (g : ReadForm) (s : State) : (readOperand g s).state.mem = s.mem := by
  rcases readOperand_state g s with h | ⟨a, h⟩ <;> simp [h]
@[simp] theorem readOperand_config (g : ReadForm) (s : State) : (readOperand g s).state.config = s.config := by
  rcases readOperand_state g s with h | ⟨a, h⟩ <;> simp [h]

@[simp] theorem readOperand_imm (v : Byte) (s : State) : readOperand (.imm v) s = ⟨v, false, s⟩ := rfl

theorem readOperand_memory (f : AddrForm) (s : State) :
    readOperand (.mem f) s =
      ⟨(memRead (resolve f s).ea s).value, (resolve f s).crossed, (memRead (resolve f s).ea s).state⟩ := by
  simp [readOperand]

/-- A store is one bus write at the effective address. -/
theorem storeClass_eq (d : Descriptor) (f : AddrForm) (v : Byte) (s : State) :
    storeClass d f v s = .next (retire d s.p.i (resolve f s).crossed 0 (memWrite (resolve f s).ea v s)) := by
  simp [storeClass]

/-- A read-modify-write of memory is one read and one write at the effective address. -/
theorem modifyClass_mem (d : Descriptor) (f : AddrForm) (op : Byte → Status → Modified) (s : State) :
    modifyClass d (.mem f) op s =
      (let ea := (resolve f s).ea
       let m := memRead ea s
       let o := op m.value s.p
       .next (retire d s.p.i (resolve f s).crossed 0 { memWrite ea o.value m.state with p := o.status })) := by
  simp [modifyClass]

end Sys2Proof.Machine
end

