-- ==== Sys2Proof/Laws/PerInstr.lean ====
section
/-! SUPPORT. Laws/PerInstr.lean: per instruction, its row of the opcode table is well-formed and its encoding has the
row's opcode first and the row's length (30_encoding.md R43, R48). -/

namespace Sys2Proof.Laws.Row

/-- What is said of every instruction: its row and operand bytes are well-formed, its first byte is the row's opcode,
it is as long as the row says. -/
def Statement (i : Instr) : Prop :=
  i.wellFormed = true ∧ (encode i).head? = some i.descriptor.opcode ∧ (encode i).length = i.descriptor.bytes

theorem ldaIndx (nn : Byte) : Statement (.ldaIndx nn) := ⟨rfl, rfl, rfl⟩
theorem ldaZp (nn : Byte) : Statement (.ldaZp nn) := ⟨rfl, rfl, rfl⟩
theorem ldaImm (value : Byte) : Statement (.ldaImm value) := ⟨rfl, rfl, rfl⟩
theorem ldaAbs (addr : Word) : Statement (.ldaAbs addr) := ⟨rfl, rfl, rfl⟩
theorem ldaIndy (nn : Byte) : Statement (.ldaIndy nn) := ⟨rfl, rfl, rfl⟩
theorem ldaZpx (nn : Byte) : Statement (.ldaZpx nn) := ⟨rfl, rfl, rfl⟩
theorem ldaAbsy (base : Word) : Statement (.ldaAbsy base) := ⟨rfl, rfl, rfl⟩
theorem ldaAbsx (base : Word) : Statement (.ldaAbsx base) := ⟨rfl, rfl, rfl⟩
theorem ldxImm (value : Byte) : Statement (.ldxImm value) := ⟨rfl, rfl, rfl⟩
theorem ldxZp (nn : Byte) : Statement (.ldxZp nn) := ⟨rfl, rfl, rfl⟩
theorem ldxAbs (addr : Word) : Statement (.ldxAbs addr) := ⟨rfl, rfl, rfl⟩
theorem ldxZpy (nn : Byte) : Statement (.ldxZpy nn) := ⟨rfl, rfl, rfl⟩
theorem ldxAbsy (base : Word) : Statement (.ldxAbsy base) := ⟨rfl, rfl, rfl⟩
theorem ldyImm (value : Byte) : Statement (.ldyImm value) := ⟨rfl, rfl, rfl⟩
theorem ldyZp (nn : Byte) : Statement (.ldyZp nn) := ⟨rfl, rfl, rfl⟩
theorem ldyAbs (addr : Word) : Statement (.ldyAbs addr) := ⟨rfl, rfl, rfl⟩
theorem ldyZpx (nn : Byte) : Statement (.ldyZpx nn) := ⟨rfl, rfl, rfl⟩
theorem ldyAbsx (base : Word) : Statement (.ldyAbsx base) := ⟨rfl, rfl, rfl⟩
theorem staIndx (nn : Byte) : Statement (.staIndx nn) := ⟨rfl, rfl, rfl⟩
theorem staZp (nn : Byte) : Statement (.staZp nn) := ⟨rfl, rfl, rfl⟩
theorem staAbs (addr : Word) : Statement (.staAbs addr) := ⟨rfl, rfl, rfl⟩
theorem staIndy (nn : Byte) : Statement (.staIndy nn) := ⟨rfl, rfl, rfl⟩
theorem staZpx (nn : Byte) : Statement (.staZpx nn) := ⟨rfl, rfl, rfl⟩
theorem staAbsy (base : Word) : Statement (.staAbsy base) := ⟨rfl, rfl, rfl⟩
theorem staAbsx (base : Word) : Statement (.staAbsx base) := ⟨rfl, rfl, rfl⟩
theorem stxZp (nn : Byte) : Statement (.stxZp nn) := ⟨rfl, rfl, rfl⟩
theorem stxAbs (addr : Word) : Statement (.stxAbs addr) := ⟨rfl, rfl, rfl⟩
theorem stxZpy (nn : Byte) : Statement (.stxZpy nn) := ⟨rfl, rfl, rfl⟩
theorem styZp (nn : Byte) : Statement (.styZp nn) := ⟨rfl, rfl, rfl⟩
theorem styAbs (addr : Word) : Statement (.styAbs addr) := ⟨rfl, rfl, rfl⟩
theorem styZpx (nn : Byte) : Statement (.styZpx nn) := ⟨rfl, rfl, rfl⟩
theorem tax : Statement (.tax) := ⟨rfl, rfl, rfl⟩
theorem tay : Statement (.tay) := ⟨rfl, rfl, rfl⟩
theorem txa : Statement (.txa) := ⟨rfl, rfl, rfl⟩
theorem tya : Statement (.tya) := ⟨rfl, rfl, rfl⟩
theorem tsx : Statement (.tsx) := ⟨rfl, rfl, rfl⟩
theorem txs : Statement (.txs) := ⟨rfl, rfl, rfl⟩
theorem adcIndx (nn : Byte) : Statement (.adcIndx nn) := ⟨rfl, rfl, rfl⟩
theorem adcZp (nn : Byte) : Statement (.adcZp nn) := ⟨rfl, rfl, rfl⟩
theorem adcImm (value : Byte) : Statement (.adcImm value) := ⟨rfl, rfl, rfl⟩
theorem adcAbs (addr : Word) : Statement (.adcAbs addr) := ⟨rfl, rfl, rfl⟩
theorem adcIndy (nn : Byte) : Statement (.adcIndy nn) := ⟨rfl, rfl, rfl⟩
theorem adcZpx (nn : Byte) : Statement (.adcZpx nn) := ⟨rfl, rfl, rfl⟩
theorem adcAbsy (base : Word) : Statement (.adcAbsy base) := ⟨rfl, rfl, rfl⟩
theorem adcAbsx (base : Word) : Statement (.adcAbsx base) := ⟨rfl, rfl, rfl⟩
theorem sbcIndx (nn : Byte) : Statement (.sbcIndx nn) := ⟨rfl, rfl, rfl⟩
theorem sbcZp (nn : Byte) : Statement (.sbcZp nn) := ⟨rfl, rfl, rfl⟩
theorem sbcImm (value : Byte) : Statement (.sbcImm value) := ⟨rfl, rfl, rfl⟩
theorem sbcAbs (addr : Word) : Statement (.sbcAbs addr) := ⟨rfl, rfl, rfl⟩
theorem sbcIndy (nn : Byte) : Statement (.sbcIndy nn) := ⟨rfl, rfl, rfl⟩
theorem sbcZpx (nn : Byte) : Statement (.sbcZpx nn) := ⟨rfl, rfl, rfl⟩
theorem sbcAbsy (base : Word) : Statement (.sbcAbsy base) := ⟨rfl, rfl, rfl⟩
theorem sbcAbsx (base : Word) : Statement (.sbcAbsx base) := ⟨rfl, rfl, rfl⟩
theorem andIndx (nn : Byte) : Statement (.andIndx nn) := ⟨rfl, rfl, rfl⟩
theorem andZp (nn : Byte) : Statement (.andZp nn) := ⟨rfl, rfl, rfl⟩
theorem andImm (value : Byte) : Statement (.andImm value) := ⟨rfl, rfl, rfl⟩
theorem andAbs (addr : Word) : Statement (.andAbs addr) := ⟨rfl, rfl, rfl⟩
theorem andIndy (nn : Byte) : Statement (.andIndy nn) := ⟨rfl, rfl, rfl⟩
theorem andZpx (nn : Byte) : Statement (.andZpx nn) := ⟨rfl, rfl, rfl⟩
theorem andAbsy (base : Word) : Statement (.andAbsy base) := ⟨rfl, rfl, rfl⟩
theorem andAbsx (base : Word) : Statement (.andAbsx base) := ⟨rfl, rfl, rfl⟩
theorem oraIndx (nn : Byte) : Statement (.oraIndx nn) := ⟨rfl, rfl, rfl⟩
theorem oraZp (nn : Byte) : Statement (.oraZp nn) := ⟨rfl, rfl, rfl⟩
theorem oraImm (value : Byte) : Statement (.oraImm value) := ⟨rfl, rfl, rfl⟩
theorem oraAbs (addr : Word) : Statement (.oraAbs addr) := ⟨rfl, rfl, rfl⟩
theorem oraIndy (nn : Byte) : Statement (.oraIndy nn) := ⟨rfl, rfl, rfl⟩
theorem oraZpx (nn : Byte) : Statement (.oraZpx nn) := ⟨rfl, rfl, rfl⟩
theorem oraAbsy (base : Word) : Statement (.oraAbsy base) := ⟨rfl, rfl, rfl⟩
theorem oraAbsx (base : Word) : Statement (.oraAbsx base) := ⟨rfl, rfl, rfl⟩
theorem eorIndx (nn : Byte) : Statement (.eorIndx nn) := ⟨rfl, rfl, rfl⟩
theorem eorZp (nn : Byte) : Statement (.eorZp nn) := ⟨rfl, rfl, rfl⟩
theorem eorImm (value : Byte) : Statement (.eorImm value) := ⟨rfl, rfl, rfl⟩
theorem eorAbs (addr : Word) : Statement (.eorAbs addr) := ⟨rfl, rfl, rfl⟩
theorem eorIndy (nn : Byte) : Statement (.eorIndy nn) := ⟨rfl, rfl, rfl⟩
theorem eorZpx (nn : Byte) : Statement (.eorZpx nn) := ⟨rfl, rfl, rfl⟩
theorem eorAbsy (base : Word) : Statement (.eorAbsy base) := ⟨rfl, rfl, rfl⟩
theorem eorAbsx (base : Word) : Statement (.eorAbsx base) := ⟨rfl, rfl, rfl⟩
theorem cmpIndx (nn : Byte) : Statement (.cmpIndx nn) := ⟨rfl, rfl, rfl⟩
theorem cmpZp (nn : Byte) : Statement (.cmpZp nn) := ⟨rfl, rfl, rfl⟩
theorem cmpImm (value : Byte) : Statement (.cmpImm value) := ⟨rfl, rfl, rfl⟩
theorem cmpAbs (addr : Word) : Statement (.cmpAbs addr) := ⟨rfl, rfl, rfl⟩
theorem cmpIndy (nn : Byte) : Statement (.cmpIndy nn) := ⟨rfl, rfl, rfl⟩
theorem cmpZpx (nn : Byte) : Statement (.cmpZpx nn) := ⟨rfl, rfl, rfl⟩
theorem cmpAbsy (base : Word) : Statement (.cmpAbsy base) := ⟨rfl, rfl, rfl⟩
theorem cmpAbsx (base : Word) : Statement (.cmpAbsx base) := ⟨rfl, rfl, rfl⟩
theorem cpxImm (value : Byte) : Statement (.cpxImm value) := ⟨rfl, rfl, rfl⟩
theorem cpxZp (nn : Byte) : Statement (.cpxZp nn) := ⟨rfl, rfl, rfl⟩
theorem cpxAbs (addr : Word) : Statement (.cpxAbs addr) := ⟨rfl, rfl, rfl⟩
theorem cpyImm (value : Byte) : Statement (.cpyImm value) := ⟨rfl, rfl, rfl⟩
theorem cpyZp (nn : Byte) : Statement (.cpyZp nn) := ⟨rfl, rfl, rfl⟩
theorem cpyAbs (addr : Word) : Statement (.cpyAbs addr) := ⟨rfl, rfl, rfl⟩
theorem bitZp (nn : Byte) : Statement (.bitZp nn) := ⟨rfl, rfl, rfl⟩
theorem bitAbs (addr : Word) : Statement (.bitAbs addr) := ⟨rfl, rfl, rfl⟩
theorem incZp (nn : Byte) : Statement (.incZp nn) := ⟨rfl, rfl, rfl⟩
theorem incAbs (addr : Word) : Statement (.incAbs addr) := ⟨rfl, rfl, rfl⟩
theorem incZpx (nn : Byte) : Statement (.incZpx nn) := ⟨rfl, rfl, rfl⟩
theorem incAbsx (base : Word) : Statement (.incAbsx base) := ⟨rfl, rfl, rfl⟩
theorem decZp (nn : Byte) : Statement (.decZp nn) := ⟨rfl, rfl, rfl⟩
theorem decAbs (addr : Word) : Statement (.decAbs addr) := ⟨rfl, rfl, rfl⟩
theorem decZpx (nn : Byte) : Statement (.decZpx nn) := ⟨rfl, rfl, rfl⟩
theorem decAbsx (base : Word) : Statement (.decAbsx base) := ⟨rfl, rfl, rfl⟩
theorem inx : Statement (.inx) := ⟨rfl, rfl, rfl⟩
theorem iny : Statement (.iny) := ⟨rfl, rfl, rfl⟩
theorem dex : Statement (.dex) := ⟨rfl, rfl, rfl⟩
theorem dey : Statement (.dey) := ⟨rfl, rfl, rfl⟩
theorem aslZp (nn : Byte) : Statement (.aslZp nn) := ⟨rfl, rfl, rfl⟩
theorem aslAcc : Statement (.aslAcc) := ⟨rfl, rfl, rfl⟩
theorem aslAbs (addr : Word) : Statement (.aslAbs addr) := ⟨rfl, rfl, rfl⟩
theorem aslZpx (nn : Byte) : Statement (.aslZpx nn) := ⟨rfl, rfl, rfl⟩
theorem aslAbsx (base : Word) : Statement (.aslAbsx base) := ⟨rfl, rfl, rfl⟩
theorem lsrZp (nn : Byte) : Statement (.lsrZp nn) := ⟨rfl, rfl, rfl⟩
theorem lsrAcc : Statement (.lsrAcc) := ⟨rfl, rfl, rfl⟩
theorem lsrAbs (addr : Word) : Statement (.lsrAbs addr) := ⟨rfl, rfl, rfl⟩
theorem lsrZpx (nn : Byte) : Statement (.lsrZpx nn) := ⟨rfl, rfl, rfl⟩
theorem lsrAbsx (base : Word) : Statement (.lsrAbsx base) := ⟨rfl, rfl, rfl⟩
theorem rolZp (nn : Byte) : Statement (.rolZp nn) := ⟨rfl, rfl, rfl⟩
theorem rolAcc : Statement (.rolAcc) := ⟨rfl, rfl, rfl⟩
theorem rolAbs (addr : Word) : Statement (.rolAbs addr) := ⟨rfl, rfl, rfl⟩
theorem rolZpx (nn : Byte) : Statement (.rolZpx nn) := ⟨rfl, rfl, rfl⟩
theorem rolAbsx (base : Word) : Statement (.rolAbsx base) := ⟨rfl, rfl, rfl⟩
theorem rorZp (nn : Byte) : Statement (.rorZp nn) := ⟨rfl, rfl, rfl⟩
theorem rorAcc : Statement (.rorAcc) := ⟨rfl, rfl, rfl⟩
theorem rorAbs (addr : Word) : Statement (.rorAbs addr) := ⟨rfl, rfl, rfl⟩
theorem rorZpx (nn : Byte) : Statement (.rorZpx nn) := ⟨rfl, rfl, rfl⟩
theorem rorAbsx (base : Word) : Statement (.rorAbsx base) := ⟨rfl, rfl, rfl⟩
theorem pha : Statement (.pha) := ⟨rfl, rfl, rfl⟩
theorem php : Statement (.php) := ⟨rfl, rfl, rfl⟩
theorem pla : Statement (.pla) := ⟨rfl, rfl, rfl⟩
theorem plp : Statement (.plp) := ⟨rfl, rfl, rfl⟩
theorem jmpAbs (target : Word) : Statement (.jmpAbs target) := ⟨rfl, rfl, rfl⟩
theorem jmpInd (ptr : Word) : Statement (.jmpInd ptr) := ⟨rfl, rfl, rfl⟩
theorem jsr (target : Word) : Statement (.jsr target) := ⟨rfl, rfl, rfl⟩
theorem rts : Statement (.rts) := ⟨rfl, rfl, rfl⟩
theorem bcc (disp : Byte) : Statement (.bcc disp) := ⟨rfl, rfl, rfl⟩
theorem bcs (disp : Byte) : Statement (.bcs disp) := ⟨rfl, rfl, rfl⟩
theorem beq (disp : Byte) : Statement (.beq disp) := ⟨rfl, rfl, rfl⟩
theorem bmi (disp : Byte) : Statement (.bmi disp) := ⟨rfl, rfl, rfl⟩
theorem bne (disp : Byte) : Statement (.bne disp) := ⟨rfl, rfl, rfl⟩
theorem bpl (disp : Byte) : Statement (.bpl disp) := ⟨rfl, rfl, rfl⟩
theorem bvc (disp : Byte) : Statement (.bvc disp) := ⟨rfl, rfl, rfl⟩
theorem bvs (disp : Byte) : Statement (.bvs disp) := ⟨rfl, rfl, rfl⟩
theorem clc : Statement (.clc) := ⟨rfl, rfl, rfl⟩
theorem cld : Statement (.cld) := ⟨rfl, rfl, rfl⟩
theorem cli : Statement (.cli) := ⟨rfl, rfl, rfl⟩
theorem clv : Statement (.clv) := ⟨rfl, rfl, rfl⟩
theorem sec : Statement (.sec) := ⟨rfl, rfl, rfl⟩
theorem sed : Statement (.sed) := ⟨rfl, rfl, rfl⟩
theorem sei : Statement (.sei) := ⟨rfl, rfl, rfl⟩
theorem nop : Statement (.nop) := ⟨rfl, rfl, rfl⟩
theorem brk : Statement (.brk) := ⟨rfl, rfl, rfl⟩
theorem rti : Statement (.rti) := ⟨rfl, rfl, rfl⟩

end Sys2Proof.Laws.Row
end

