-- ==== Sys2Proof/Laws/State.lean ====
section
/-! SUPPORT. Laws/State.lean: what each register update of an instruction rule leaves in each field. -/

namespace Sys2Proof.Machine

@[simp] theorem State.setA_a (s : State) (v : Byte) : (s.setA v).a = v := rfl
@[simp] theorem State.setA_x (s : State) (v : Byte) : (s.setA v).x = s.x := rfl
@[simp] theorem State.setA_y (s : State) (v : Byte) : (s.setA v).y = s.y := rfl
@[simp] theorem State.setA_sp (s : State) (v : Byte) : (s.setA v).sp = s.sp := rfl
@[simp] theorem State.setA_pc (s : State) (v : Byte) : (s.setA v).pc = s.pc := rfl
@[simp] theorem State.setA_p (s : State) (v : Byte) : (s.setA v).p = s.p.setZN v := rfl
@[simp] theorem State.setA_cycles (s : State) (v : Byte) : (s.setA v).cycles = s.cycles := rfl
@[simp] theorem State.setA_nmiPending (s : State) (v : Byte) : (s.setA v).nmiPending = s.nmiPending := rfl
@[simp] theorem State.setA_iPoll (s : State) (v : Byte) : (s.setA v).iPoll = s.iPoll := rfl
@[simp] theorem State.setA_skipPoll (s : State) (v : Byte) : (s.setA v).skipPoll = s.skipPoll := rfl
@[simp] theorem State.setA_halted (s : State) (v : Byte) : (s.setA v).halted = s.halted := rfl
@[simp] theorem State.setA_irq (s : State) (v : Byte) : (s.setA v).irq = s.irq := rfl
@[simp] theorem State.setA_mem (s : State) (v : Byte) : (s.setA v).mem = s.mem := rfl
@[simp] theorem State.setA_extReads (s : State) (v : Byte) : (s.setA v).extReads = s.extReads := rfl
@[simp] theorem State.setA_extLog (s : State) (v : Byte) : (s.setA v).extLog = s.extLog := rfl
@[simp] theorem State.setA_config (s : State) (v : Byte) : (s.setA v).config = s.config := rfl

@[simp] theorem State.setX_a (s : State) (v : Byte) : (s.setX v).a = s.a := rfl
@[simp] theorem State.setX_x (s : State) (v : Byte) : (s.setX v).x = v := rfl
@[simp] theorem State.setX_y (s : State) (v : Byte) : (s.setX v).y = s.y := rfl
@[simp] theorem State.setX_sp (s : State) (v : Byte) : (s.setX v).sp = s.sp := rfl
@[simp] theorem State.setX_pc (s : State) (v : Byte) : (s.setX v).pc = s.pc := rfl
@[simp] theorem State.setX_p (s : State) (v : Byte) : (s.setX v).p = s.p.setZN v := rfl
@[simp] theorem State.setX_cycles (s : State) (v : Byte) : (s.setX v).cycles = s.cycles := rfl
@[simp] theorem State.setX_nmiPending (s : State) (v : Byte) : (s.setX v).nmiPending = s.nmiPending := rfl
@[simp] theorem State.setX_iPoll (s : State) (v : Byte) : (s.setX v).iPoll = s.iPoll := rfl
@[simp] theorem State.setX_skipPoll (s : State) (v : Byte) : (s.setX v).skipPoll = s.skipPoll := rfl
@[simp] theorem State.setX_halted (s : State) (v : Byte) : (s.setX v).halted = s.halted := rfl
@[simp] theorem State.setX_irq (s : State) (v : Byte) : (s.setX v).irq = s.irq := rfl
@[simp] theorem State.setX_mem (s : State) (v : Byte) : (s.setX v).mem = s.mem := rfl
@[simp] theorem State.setX_extReads (s : State) (v : Byte) : (s.setX v).extReads = s.extReads := rfl
@[simp] theorem State.setX_extLog (s : State) (v : Byte) : (s.setX v).extLog = s.extLog := rfl
@[simp] theorem State.setX_config (s : State) (v : Byte) : (s.setX v).config = s.config := rfl

@[simp] theorem State.setY_a (s : State) (v : Byte) : (s.setY v).a = s.a := rfl
@[simp] theorem State.setY_x (s : State) (v : Byte) : (s.setY v).x = s.x := rfl
@[simp] theorem State.setY_y (s : State) (v : Byte) : (s.setY v).y = v := rfl
@[simp] theorem State.setY_sp (s : State) (v : Byte) : (s.setY v).sp = s.sp := rfl
@[simp] theorem State.setY_pc (s : State) (v : Byte) : (s.setY v).pc = s.pc := rfl
@[simp] theorem State.setY_p (s : State) (v : Byte) : (s.setY v).p = s.p.setZN v := rfl
@[simp] theorem State.setY_cycles (s : State) (v : Byte) : (s.setY v).cycles = s.cycles := rfl
@[simp] theorem State.setY_nmiPending (s : State) (v : Byte) : (s.setY v).nmiPending = s.nmiPending := rfl
@[simp] theorem State.setY_iPoll (s : State) (v : Byte) : (s.setY v).iPoll = s.iPoll := rfl
@[simp] theorem State.setY_skipPoll (s : State) (v : Byte) : (s.setY v).skipPoll = s.skipPoll := rfl
@[simp] theorem State.setY_halted (s : State) (v : Byte) : (s.setY v).halted = s.halted := rfl
@[simp] theorem State.setY_irq (s : State) (v : Byte) : (s.setY v).irq = s.irq := rfl
@[simp] theorem State.setY_mem (s : State) (v : Byte) : (s.setY v).mem = s.mem := rfl
@[simp] theorem State.setY_extReads (s : State) (v : Byte) : (s.setY v).extReads = s.extReads := rfl
@[simp] theorem State.setY_extLog (s : State) (v : Byte) : (s.setY v).extLog = s.extLog := rfl
@[simp] theorem State.setY_config (s : State) (v : Byte) : (s.setY v).config = s.config := rfl

@[simp] theorem retire_a (d : Descriptor) (iBefore crossed : Bool) (branch : Nat) (s : State) : (retire d iBefore crossed branch s).a = s.a := rfl
@[simp] theorem retire_x (d : Descriptor) (iBefore crossed : Bool) (branch : Nat) (s : State) : (retire d iBefore crossed branch s).x = s.x := rfl
@[simp] theorem retire_y (d : Descriptor) (iBefore crossed : Bool) (branch : Nat) (s : State) : (retire d iBefore crossed branch s).y = s.y := rfl
@[simp] theorem retire_sp (d : Descriptor) (iBefore crossed : Bool) (branch : Nat) (s : State) : (retire d iBefore crossed branch s).sp = s.sp := rfl
@[simp] theorem retire_pc (d : Descriptor) (iBefore crossed : Bool) (branch : Nat) (s : State) : (retire d iBefore crossed branch s).pc = s.pc := rfl
@[simp] theorem retire_p (d : Descriptor) (iBefore crossed : Bool) (branch : Nat) (s : State) : (retire d iBefore crossed branch s).p = s.p := rfl
@[simp] theorem retire_cycles (d : Descriptor) (iBefore crossed : Bool) (branch : Nat) (s : State) : (retire d iBefore crossed branch s).cycles = s.cycles + (d.baseCycles + (if d.pageCrossCycle && crossed then 1 else 0) + branch) := rfl
@[simp] theorem retire_nmiPending (d : Descriptor) (iBefore crossed : Bool) (branch : Nat) (s : State) : (retire d iBefore crossed branch s).nmiPending = s.nmiPending := rfl
@[simp] theorem retire_iPoll (d : Descriptor) (iBefore crossed : Bool) (branch : Nat) (s : State) : (retire d iBefore crossed branch s).iPoll = if delaysPoll d.mnemonic then iBefore else s.p.i := rfl
@[simp] theorem retire_skipPoll (d : Descriptor) (iBefore crossed : Bool) (branch : Nat) (s : State) : (retire d iBefore crossed branch s).skipPoll = s.skipPoll := rfl
@[simp] theorem retire_halted (d : Descriptor) (iBefore crossed : Bool) (branch : Nat) (s : State) : (retire d iBefore crossed branch s).halted = s.halted := rfl
@[simp] theorem retire_irq (d : Descriptor) (iBefore crossed : Bool) (branch : Nat) (s : State) : (retire d iBefore crossed branch s).irq = s.irq := rfl
@[simp] theorem retire_mem (d : Descriptor) (iBefore crossed : Bool) (branch : Nat) (s : State) : (retire d iBefore crossed branch s).mem = s.mem := rfl
@[simp] theorem retire_extReads (d : Descriptor) (iBefore crossed : Bool) (branch : Nat) (s : State) : (retire d iBefore crossed branch s).extReads = s.extReads := rfl
@[simp] theorem retire_extLog (d : Descriptor) (iBefore crossed : Bool) (branch : Nat) (s : State) : (retire d iBefore crossed branch s).extLog = s.extLog := rfl
@[simp] theorem retire_config (d : Descriptor) (iBefore crossed : Bool) (branch : Nat) (s : State) : (retire d iBefore crossed branch s).config = s.config := rfl

@[simp] theorem adcA_a (s : State) (m : Byte) : (adcA m s).a = (addWithCarry s.a m s.p.c).value := rfl
@[simp] theorem adcA_x (s : State) (m : Byte) : (adcA m s).x = s.x := rfl
@[simp] theorem adcA_y (s : State) (m : Byte) : (adcA m s).y = s.y := rfl
@[simp] theorem adcA_sp (s : State) (m : Byte) : (adcA m s).sp = s.sp := rfl
@[simp] theorem adcA_pc (s : State) (m : Byte) : (adcA m s).pc = s.pc := rfl
@[simp] theorem adcA_p (s : State) (m : Byte) : (adcA m s).p = s.p.ofSum (addWithCarry s.a m s.p.c) := rfl
@[simp] theorem adcA_cycles (s : State) (m : Byte) : (adcA m s).cycles = s.cycles := rfl
@[simp] theorem adcA_nmiPending (s : State) (m : Byte) : (adcA m s).nmiPending = s.nmiPending := rfl
@[simp] theorem adcA_iPoll (s : State) (m : Byte) : (adcA m s).iPoll = s.iPoll := rfl
@[simp] theorem adcA_skipPoll (s : State) (m : Byte) : (adcA m s).skipPoll = s.skipPoll := rfl
@[simp] theorem adcA_halted (s : State) (m : Byte) : (adcA m s).halted = s.halted := rfl
@[simp] theorem adcA_irq (s : State) (m : Byte) : (adcA m s).irq = s.irq := rfl
@[simp] theorem adcA_mem (s : State) (m : Byte) : (adcA m s).mem = s.mem := rfl
@[simp] theorem adcA_extReads (s : State) (m : Byte) : (adcA m s).extReads = s.extReads := rfl
@[simp] theorem adcA_extLog (s : State) (m : Byte) : (adcA m s).extLog = s.extLog := rfl
@[simp] theorem adcA_config (s : State) (m : Byte) : (adcA m s).config = s.config := rfl

@[simp] theorem sbcA_a (s : State) (m : Byte) : (sbcA m s).a = (subWithBorrow s.a m s.p.c).value := rfl
@[simp] theorem sbcA_x (s : State) (m : Byte) : (sbcA m s).x = s.x := rfl
@[simp] theorem sbcA_y (s : State) (m : Byte) : (sbcA m s).y = s.y := rfl
@[simp] theorem sbcA_sp (s : State) (m : Byte) : (sbcA m s).sp = s.sp := rfl
@[simp] theorem sbcA_pc (s : State) (m : Byte) : (sbcA m s).pc = s.pc := rfl
@[simp] theorem sbcA_p (s : State) (m : Byte) : (sbcA m s).p = s.p.ofSum (subWithBorrow s.a m s.p.c) := rfl
@[simp] theorem sbcA_cycles (s : State) (m : Byte) : (sbcA m s).cycles = s.cycles := rfl
@[simp] theorem sbcA_nmiPending (s : State) (m : Byte) : (sbcA m s).nmiPending = s.nmiPending := rfl
@[simp] theorem sbcA_iPoll (s : State) (m : Byte) : (sbcA m s).iPoll = s.iPoll := rfl
@[simp] theorem sbcA_skipPoll (s : State) (m : Byte) : (sbcA m s).skipPoll = s.skipPoll := rfl
@[simp] theorem sbcA_halted (s : State) (m : Byte) : (sbcA m s).halted = s.halted := rfl
@[simp] theorem sbcA_irq (s : State) (m : Byte) : (sbcA m s).irq = s.irq := rfl
@[simp] theorem sbcA_mem (s : State) (m : Byte) : (sbcA m s).mem = s.mem := rfl
@[simp] theorem sbcA_extReads (s : State) (m : Byte) : (sbcA m s).extReads = s.extReads := rfl
@[simp] theorem sbcA_extLog (s : State) (m : Byte) : (sbcA m s).extLog = s.extLog := rfl
@[simp] theorem sbcA_config (s : State) (m : Byte) : (sbcA m s).config = s.config := rfl

@[simp] theorem compareA_a (s : State) (m : Byte) : (compareA m s).a = s.a := rfl
@[simp] theorem compareA_x (s : State) (m : Byte) : (compareA m s).x = s.x := rfl
@[simp] theorem compareA_y (s : State) (m : Byte) : (compareA m s).y = s.y := rfl
@[simp] theorem compareA_sp (s : State) (m : Byte) : (compareA m s).sp = s.sp := rfl
@[simp] theorem compareA_pc (s : State) (m : Byte) : (compareA m s).pc = s.pc := rfl
@[simp] theorem compareA_p (s : State) (m : Byte) : (compareA m s).p = s.p.compare s.a m := rfl
@[simp] theorem compareA_cycles (s : State) (m : Byte) : (compareA m s).cycles = s.cycles := rfl
@[simp] theorem compareA_nmiPending (s : State) (m : Byte) : (compareA m s).nmiPending = s.nmiPending := rfl
@[simp] theorem compareA_iPoll (s : State) (m : Byte) : (compareA m s).iPoll = s.iPoll := rfl
@[simp] theorem compareA_skipPoll (s : State) (m : Byte) : (compareA m s).skipPoll = s.skipPoll := rfl
@[simp] theorem compareA_halted (s : State) (m : Byte) : (compareA m s).halted = s.halted := rfl
@[simp] theorem compareA_irq (s : State) (m : Byte) : (compareA m s).irq = s.irq := rfl
@[simp] theorem compareA_mem (s : State) (m : Byte) : (compareA m s).mem = s.mem := rfl
@[simp] theorem compareA_extReads (s : State) (m : Byte) : (compareA m s).extReads = s.extReads := rfl
@[simp] theorem compareA_extLog (s : State) (m : Byte) : (compareA m s).extLog = s.extLog := rfl
@[simp] theorem compareA_config (s : State) (m : Byte) : (compareA m s).config = s.config := rfl

@[simp] theorem compareX_a (s : State) (m : Byte) : (compareX m s).a = s.a := rfl
@[simp] theorem compareX_x (s : State) (m : Byte) : (compareX m s).x = s.x := rfl
@[simp] theorem compareX_y (s : State) (m : Byte) : (compareX m s).y = s.y := rfl
@[simp] theorem compareX_sp (s : State) (m : Byte) : (compareX m s).sp = s.sp := rfl
@[simp] theorem compareX_pc (s : State) (m : Byte) : (compareX m s).pc = s.pc := rfl
@[simp] theorem compareX_p (s : State) (m : Byte) : (compareX m s).p = s.p.compare s.x m := rfl
@[simp] theorem compareX_cycles (s : State) (m : Byte) : (compareX m s).cycles = s.cycles := rfl
@[simp] theorem compareX_nmiPending (s : State) (m : Byte) : (compareX m s).nmiPending = s.nmiPending := rfl
@[simp] theorem compareX_iPoll (s : State) (m : Byte) : (compareX m s).iPoll = s.iPoll := rfl
@[simp] theorem compareX_skipPoll (s : State) (m : Byte) : (compareX m s).skipPoll = s.skipPoll := rfl
@[simp] theorem compareX_halted (s : State) (m : Byte) : (compareX m s).halted = s.halted := rfl
@[simp] theorem compareX_irq (s : State) (m : Byte) : (compareX m s).irq = s.irq := rfl
@[simp] theorem compareX_mem (s : State) (m : Byte) : (compareX m s).mem = s.mem := rfl
@[simp] theorem compareX_extReads (s : State) (m : Byte) : (compareX m s).extReads = s.extReads := rfl
@[simp] theorem compareX_extLog (s : State) (m : Byte) : (compareX m s).extLog = s.extLog := rfl
@[simp] theorem compareX_config (s : State) (m : Byte) : (compareX m s).config = s.config := rfl

@[simp] theorem compareY_a (s : State) (m : Byte) : (compareY m s).a = s.a := rfl
@[simp] theorem compareY_x (s : State) (m : Byte) : (compareY m s).x = s.x := rfl
@[simp] theorem compareY_y (s : State) (m : Byte) : (compareY m s).y = s.y := rfl
@[simp] theorem compareY_sp (s : State) (m : Byte) : (compareY m s).sp = s.sp := rfl
@[simp] theorem compareY_pc (s : State) (m : Byte) : (compareY m s).pc = s.pc := rfl
@[simp] theorem compareY_p (s : State) (m : Byte) : (compareY m s).p = s.p.compare s.y m := rfl
@[simp] theorem compareY_cycles (s : State) (m : Byte) : (compareY m s).cycles = s.cycles := rfl
@[simp] theorem compareY_nmiPending (s : State) (m : Byte) : (compareY m s).nmiPending = s.nmiPending := rfl
@[simp] theorem compareY_iPoll (s : State) (m : Byte) : (compareY m s).iPoll = s.iPoll := rfl
@[simp] theorem compareY_skipPoll (s : State) (m : Byte) : (compareY m s).skipPoll = s.skipPoll := rfl
@[simp] theorem compareY_halted (s : State) (m : Byte) : (compareY m s).halted = s.halted := rfl
@[simp] theorem compareY_irq (s : State) (m : Byte) : (compareY m s).irq = s.irq := rfl
@[simp] theorem compareY_mem (s : State) (m : Byte) : (compareY m s).mem = s.mem := rfl
@[simp] theorem compareY_extReads (s : State) (m : Byte) : (compareY m s).extReads = s.extReads := rfl
@[simp] theorem compareY_extLog (s : State) (m : Byte) : (compareY m s).extLog = s.extLog := rfl
@[simp] theorem compareY_config (s : State) (m : Byte) : (compareY m s).config = s.config := rfl

@[simp] theorem bitA_a (s : State) (m : Byte) : (bitA m s).a = s.a := rfl
@[simp] theorem bitA_x (s : State) (m : Byte) : (bitA m s).x = s.x := rfl
@[simp] theorem bitA_y (s : State) (m : Byte) : (bitA m s).y = s.y := rfl
@[simp] theorem bitA_sp (s : State) (m : Byte) : (bitA m s).sp = s.sp := rfl
@[simp] theorem bitA_pc (s : State) (m : Byte) : (bitA m s).pc = s.pc := rfl
@[simp] theorem bitA_p (s : State) (m : Byte) : (bitA m s).p = s.p.bitTest s.a m := rfl
@[simp] theorem bitA_cycles (s : State) (m : Byte) : (bitA m s).cycles = s.cycles := rfl
@[simp] theorem bitA_nmiPending (s : State) (m : Byte) : (bitA m s).nmiPending = s.nmiPending := rfl
@[simp] theorem bitA_iPoll (s : State) (m : Byte) : (bitA m s).iPoll = s.iPoll := rfl
@[simp] theorem bitA_skipPoll (s : State) (m : Byte) : (bitA m s).skipPoll = s.skipPoll := rfl
@[simp] theorem bitA_halted (s : State) (m : Byte) : (bitA m s).halted = s.halted := rfl
@[simp] theorem bitA_irq (s : State) (m : Byte) : (bitA m s).irq = s.irq := rfl
@[simp] theorem bitA_mem (s : State) (m : Byte) : (bitA m s).mem = s.mem := rfl
@[simp] theorem bitA_extReads (s : State) (m : Byte) : (bitA m s).extReads = s.extReads := rfl
@[simp] theorem bitA_extLog (s : State) (m : Byte) : (bitA m s).extLog = s.extLog := rfl
@[simp] theorem bitA_config (s : State) (m : Byte) : (bitA m s).config = s.config := rfl

@[simp] theorem Status.setZN_c (p : Status) (r : Byte) : (p.setZN r).c = p.c := rfl
@[simp] theorem Status.setZN_z (p : Status) (r : Byte) : (p.setZN r).z = (r == 0) := rfl
@[simp] theorem Status.setZN_i (p : Status) (r : Byte) : (p.setZN r).i = p.i := rfl
@[simp] theorem Status.setZN_d (p : Status) (r : Byte) : (p.setZN r).d = p.d := rfl
@[simp] theorem Status.setZN_v (p : Status) (r : Byte) : (p.setZN r).v = p.v := rfl
@[simp] theorem Status.setZN_n (p : Status) (r : Byte) : (p.setZN r).n = r.getLsbD 7 := rfl

@[simp] theorem Status.ofSum_c (p : Status) (t : Sum) : (p.ofSum t).c = t.carry := rfl
@[simp] theorem Status.ofSum_z (p : Status) (t : Sum) : (p.ofSum t).z = (t.value == 0) := rfl
@[simp] theorem Status.ofSum_i (p : Status) (t : Sum) : (p.ofSum t).i = p.i := rfl
@[simp] theorem Status.ofSum_d (p : Status) (t : Sum) : (p.ofSum t).d = p.d := rfl
@[simp] theorem Status.ofSum_v (p : Status) (t : Sum) : (p.ofSum t).v = t.overflow := rfl
@[simp] theorem Status.ofSum_n (p : Status) (t : Sum) : (p.ofSum t).n = t.value.getLsbD 7 := rfl

@[simp] theorem Status.compare_c (p : Status) (r m : Byte) : (p.compare r m).c = decide (m.toNat ≤ r.toNat) := rfl
@[simp] theorem Status.compare_z (p : Status) (r m : Byte) : (p.compare r m).z = (r - m == 0) := rfl
@[simp] theorem Status.compare_i (p : Status) (r m : Byte) : (p.compare r m).i = p.i := rfl
@[simp] theorem Status.compare_d (p : Status) (r m : Byte) : (p.compare r m).d = p.d := rfl
@[simp] theorem Status.compare_v (p : Status) (r m : Byte) : (p.compare r m).v = p.v := rfl
@[simp] theorem Status.compare_n (p : Status) (r m : Byte) : (p.compare r m).n = (r - m).getLsbD 7 := rfl

@[simp] theorem Status.bitTest_c (p : Status) (a m : Byte) : (p.bitTest a m).c = p.c := rfl
@[simp] theorem Status.bitTest_z (p : Status) (a m : Byte) : (p.bitTest a m).z = (a &&& m == 0) := rfl
@[simp] theorem Status.bitTest_i (p : Status) (a m : Byte) : (p.bitTest a m).i = p.i := rfl
@[simp] theorem Status.bitTest_d (p : Status) (a m : Byte) : (p.bitTest a m).d = p.d := rfl
@[simp] theorem Status.bitTest_v (p : Status) (a m : Byte) : (p.bitTest a m).v = m.getLsbD 6 := rfl
@[simp] theorem Status.bitTest_n (p : Status) (a m : Byte) : (p.bitTest a m).n = m.getLsbD 7 := rfl

end Sys2Proof.Machine
end

