-- ==== Sys2Proof/Laws/Step.lean ====
section
/-! SUPPORT. Laws/Step.lean: what a fetch can change, everything a step can do, and what the state after reset is. -/

namespace Sys2Proof.Machine

@[simp] theorem fetch_pc (s : State) : (fetch s).state.pc = s.pc + 1 := by simp [fetch]

/-- A fetch moves PC and may be delivered to the host; it leaves everything else. -/
theorem fetch_frame (s : State) :
    ∃ reads log, (fetch s).state = { s with pc := s.pc + 1, extReads := reads, extLog := log } := by
  unfold fetch
  rw [memRead_eq]
  split <;> exact ⟨_, _, rfl⟩

/-- A fetch the host does not answer. -/
theorem fetch_quiet {s : State} (h : s.hostAnswers s.pc = false) :
    fetch s = ⟨s.peek s.pc, { s with pc := s.pc + 1 }⟩ := by
  simp [fetch, memRead_quiet h]

theorem fetchOperands_frame (op : Byte) (s : State) :
    ∃ pc reads log, (fetchOperands op s).state = { s with pc := pc, extReads := reads, extLog := log } := by
  obtain ⟨r1, l1, h1⟩ := fetch_frame s
  obtain ⟨r2, l2, h2⟩ := fetch_frame (fetch s).state
  unfold fetchOperands
  split
  · exact ⟨_, _, _, h1⟩
  · split
    · exact ⟨_, _, _, h1⟩
    · refine ⟨s.pc + 1 + 1, r2, l2, ?_⟩
      show (fetch (fetch s).state).state = _
      rw [h2, h1]
  · exact ⟨_, _, _, rfl⟩

/-- Fetching an instruction leaves everything but PC and the host's deliveries. -/
theorem fetchInstr_frame {s f : State} {i : Instr} (h : fetchInstr s = .instr i f) :
    ∃ pc reads log, f = { s with pc := pc, extReads := reads, extLog := log } := by
  obtain ⟨r1, l1, h1⟩ := fetch_frame s
  obtain ⟨pc, r2, l2, h2⟩ := fetchOperands_frame (fetch s).value (fetch s).state
  unfold fetchInstr at h
  simp only at h
  split at h
  · cases h
    exact ⟨pc, r2, l2, by rw [h2, h1]⟩
  · cases h

/-! ### What a fetch finds, by the form of the opcode -/

theorem fetchInstr_illegal {s : State} (h : opcodeForm (fetch s).value = none) :
    fetchInstr s = .illegal (fetch s).value := by
  simp [fetchInstr, fetchOperands, decode, h]

theorem fetchInstr_implied {s : State} {i : Instr} (h : opcodeForm (fetch s).value = some (.implied i)) :
    fetchInstr s = .instr i (fetch s).state := by
  simp [fetchInstr, fetchOperands, h, Form.operandCount, decode_implied h]

theorem fetchInstr_byte {s : State} {mk : Byte → Instr} (h : opcodeForm (fetch s).value = some (.byteOperand mk)) :
    fetchInstr s = .instr (mk (fetch (fetch s).state).value) (fetch (fetch s).state).state := by
  simp [fetchInstr, fetchOperands, h, Form.operandCount, decode_byte h]

theorem fetchInstr_word {s : State} {mk : Word → Instr} (h : opcodeForm (fetch s).value = some (.wordOperand mk))
    (hj : (fetch s).value ≠ jsrOpcode) :
    fetchInstr s =
      .instr (mk (makeWord (fetch (fetch s).state).value (fetch (fetch (fetch s).state).state).value))
        (fetch (fetch (fetch s).state).state).state := by
  simp [fetchInstr, fetchOperands, h, Form.operandCount, hj, decode_word h]

/-- JSR's third byte is looked at in the store, and PC stays on it. -/
theorem fetchInstr_jsr {s : State} (hj : (fetch s).value = jsrOpcode) :
    fetchInstr s =
      .instr
        (.jsr (makeWord (fetch (fetch s).state).value ((fetch (fetch s).state).state.peek (fetch (fetch s).state).state.pc)))
        (fetch (fetch s).state).state := by
  have h : opcodeForm (fetch s).value = some (.wordOperand .jsr) := by rw [hj]; rfl
  have hd := fun a b => decode_word h a b []
  rw [hj] at h hd
  simp [fetchInstr, fetchOperands, hj, h, Form.operandCount, hd]

/-- Everything a step that answers a next state can have done. -/
theorem step_next {s t : State} (h : step s = .next t) :
    s.halted = none ∧
      ((∃ kind, pollInterrupt s = some kind ∧ t = interruptEntry kind s) ∨
        (pollInterrupt s = none ∧
          ∃ i f, fetchInstr { s with skipPoll := false } = .instr i f ∧ exec i f = .next t)) := by
  unfold step at h
  split at h
  · cases h
  · refine ⟨‹_›, ?_⟩
    split at h
    · cases h
      exact .inl ⟨_, ‹_›, rfl⟩
    · split at h
      · cases h
      · exact .inr ⟨‹_›, _, _, ‹_›, h⟩

/-- The step of a core that is neither halted nor interrupted. -/
theorem step_running {s : State} (h : s.halted = none) (hp : pollInterrupt s = none) :
    step s =
      match fetchInstr { s with skipPoll := false } with
      | .illegal op => .fault (.fatalOpcode (fatalRecord s op))
      | .instr i f => exec i f := by
  unfold step
  generalize fetchInstr { s with skipPoll := false } = found
  cases found <;> simp [h, hp]

/-- The store after reset is canonical. -/
theorem reset_mem_wf : State.reset.mem.wf = true := rfl

end Sys2Proof.Machine
end

