-- ==== Sys2Proof/Tests/Slice0.lean ====
section
/-! SUPPORT. Tests/Slice0.lean: ill-formed terms that WellFormed refuses, the opcode map and the vectors of the spec, and a
concrete state for the hypotheses of every statement. Expected values come from spec/, never from the model. -/

namespace Sys2Proof.Tests

open Machine Claims

/-! ### Ill-formed terms -/

/-- LDA abs is three bytes long (30_encoding.md R43), not two. -/
theorem test_wellformed_length :
    (⟨0xAD, .LDA, .abs, 2, 4, false, false⟩ : Descriptor).lengthOk = false ∧
    (⟨0xAD, .LDA, .abs, 2, 4, false, false⟩ : Descriptor).wellFormed (.one 0x10) = false := by decide

/-- LDA zp cannot pay a page-crossing cycle (40_addressing.md R70). -/
theorem test_wellformed_page_cross :
    (⟨0xA5, .LDA, .zp, 2, 3, true, false⟩ : Descriptor).pageCrossOk = false ∧
    (⟨0xA5, .LDA, .zp, 2, 3, true, false⟩ : Descriptor).wellFormed (.one 0x10) = false := by decide

/-- NOP has no branch cycles, and a branch has them (45_control.md R116). -/
theorem test_wellformed_branch :
    (⟨0xEA, .NOP, .imp, 1, 2, false, true⟩ : Descriptor).wellFormed .none = false ∧
    (⟨0xD0, .BNE, .rel, 2, 2, false, false⟩ : Descriptor).wellFormed (.one 0x10) = false := by decide

/-- LDA #nn takes one operand byte, not two and not none (R43). -/
theorem test_wellformed_operand :
    (⟨0xA9, .LDA, .imm, 2, 2, false, false⟩ : Descriptor).wellFormed (.two 0x1234) = false ∧
    (⟨0xA9, .LDA, .imm, 2, 2, false, false⟩ : Descriptor).wellFormed .none = false := by decide

/-- What the table says of a branch and of JSR is well-formed. -/
theorem test_wellformed_accepts : (Instr.bne 0xFB).wellFormed = true ∧ (Instr.jsr 0x1234).wellFormed = true := by decide

/-! ### The opcode map (30_encoding.md R54), every opcode with the operand bytes 0x34 0x12 -/

/-- What the decoder reads from an opcode byte and those operand bytes. -/
def decoded (op : Nat) : Option Instr := decodeTableWord 24 (op + 0x123400)

/-- One row of the map. -/
def rowOf (first : Nat) : List (Option Instr) := (List.range 16).map fun k => decoded (first + k)

theorem test_decode_row_0 :
    rowOf 0x00 = [some .brk, some (.oraIndx 0x34), none, none,
     none, some (.oraZp 0x34), some (.aslZp 0x34), none,
     some .php, some (.oraImm 0x34), some .aslAcc, none,
     none, some (.oraAbs 0x1234), some (.aslAbs 0x1234), none] := by decide

theorem test_decode_row_1 :
    rowOf 0x10 = [some (.bpl 0x34), some (.oraIndy 0x34), none, none,
     none, some (.oraZpx 0x34), some (.aslZpx 0x34), none,
     some .clc, some (.oraAbsy 0x1234), none, none,
     none, some (.oraAbsx 0x1234), some (.aslAbsx 0x1234), none] := by decide

theorem test_decode_row_2 :
    rowOf 0x20 = [some (.jsr 0x1234), some (.andIndx 0x34), none, none,
     some (.bitZp 0x34), some (.andZp 0x34), some (.rolZp 0x34), none,
     some .plp, some (.andImm 0x34), some .rolAcc, none,
     some (.bitAbs 0x1234), some (.andAbs 0x1234), some (.rolAbs 0x1234), none] := by decide

theorem test_decode_row_3 :
    rowOf 0x30 = [some (.bmi 0x34), some (.andIndy 0x34), none, none,
     none, some (.andZpx 0x34), some (.rolZpx 0x34), none,
     some .sec, some (.andAbsy 0x1234), none, none,
     none, some (.andAbsx 0x1234), some (.rolAbsx 0x1234), none] := by decide

theorem test_decode_row_4 :
    rowOf 0x40 = [some .rti, some (.eorIndx 0x34), none, none,
     none, some (.eorZp 0x34), some (.lsrZp 0x34), none,
     some .pha, some (.eorImm 0x34), some .lsrAcc, none,
     some (.jmpAbs 0x1234), some (.eorAbs 0x1234), some (.lsrAbs 0x1234), none] := by decide

theorem test_decode_row_5 :
    rowOf 0x50 = [some (.bvc 0x34), some (.eorIndy 0x34), none, none,
     none, some (.eorZpx 0x34), some (.lsrZpx 0x34), none,
     some .cli, some (.eorAbsy 0x1234), none, none,
     none, some (.eorAbsx 0x1234), some (.lsrAbsx 0x1234), none] := by decide

theorem test_decode_row_6 :
    rowOf 0x60 = [some .rts, some (.adcIndx 0x34), none, none,
     none, some (.adcZp 0x34), some (.rorZp 0x34), none,
     some .pla, some (.adcImm 0x34), some .rorAcc, none,
     some (.jmpInd 0x1234), some (.adcAbs 0x1234), some (.rorAbs 0x1234), none] := by decide

theorem test_decode_row_7 :
    rowOf 0x70 = [some (.bvs 0x34), some (.adcIndy 0x34), none, none,
     none, some (.adcZpx 0x34), some (.rorZpx 0x34), none,
     some .sei, some (.adcAbsy 0x1234), none, none,
     none, some (.adcAbsx 0x1234), some (.rorAbsx 0x1234), none] := by decide

theorem test_decode_row_8 :
    rowOf 0x80 = [none, some (.staIndx 0x34), none, none,
     some (.styZp 0x34), some (.staZp 0x34), some (.stxZp 0x34), none,
     some .dey, none, some .txa, none,
     some (.styAbs 0x1234), some (.staAbs 0x1234), some (.stxAbs 0x1234), none] := by decide

theorem test_decode_row_9 :
    rowOf 0x90 = [some (.bcc 0x34), some (.staIndy 0x34), none, none,
     some (.styZpx 0x34), some (.staZpx 0x34), some (.stxZpy 0x34), none,
     some .tya, some (.staAbsy 0x1234), some .txs, none,
     none, some (.staAbsx 0x1234), none, none] := by decide

theorem test_decode_row_A :
    rowOf 0xA0 = [some (.ldyImm 0x34), some (.ldaIndx 0x34), some (.ldxImm 0x34), none,
     some (.ldyZp 0x34), some (.ldaZp 0x34), some (.ldxZp 0x34), none,
     some .tay, some (.ldaImm 0x34), some .tax, none,
     some (.ldyAbs 0x1234), some (.ldaAbs 0x1234), some (.ldxAbs 0x1234), none] := by decide

theorem test_decode_row_B :
    rowOf 0xB0 = [some (.bcs 0x34), some (.ldaIndy 0x34), none, none,
     some (.ldyZpx 0x34), some (.ldaZpx 0x34), some (.ldxZpy 0x34), none,
     some .clv, some (.ldaAbsy 0x1234), some .tsx, none,
     some (.ldyAbsx 0x1234), some (.ldaAbsx 0x1234), some (.ldxAbsy 0x1234), none] := by decide

theorem test_decode_row_C :
    rowOf 0xC0 = [some (.cpyImm 0x34), some (.cmpIndx 0x34), none, none,
     some (.cpyZp 0x34), some (.cmpZp 0x34), some (.decZp 0x34), none,
     some .iny, some (.cmpImm 0x34), some .dex, none,
     some (.cpyAbs 0x1234), some (.cmpAbs 0x1234), some (.decAbs 0x1234), none] := by decide

theorem test_decode_row_D :
    rowOf 0xD0 = [some (.bne 0x34), some (.cmpIndy 0x34), none, none,
     none, some (.cmpZpx 0x34), some (.decZpx 0x34), none,
     some .cld, some (.cmpAbsy 0x1234), none, none,
     none, some (.cmpAbsx 0x1234), some (.decAbsx 0x1234), none] := by decide

theorem test_decode_row_E :
    rowOf 0xE0 = [some (.cpxImm 0x34), some (.sbcIndx 0x34), none, none,
     some (.cpxZp 0x34), some (.sbcZp 0x34), some (.incZp 0x34), none,
     some .inx, some (.sbcImm 0x34), some .nop, none,
     some (.cpxAbs 0x1234), some (.sbcAbs 0x1234), some (.incAbs 0x1234), none] := by decide

theorem test_decode_row_F :
    rowOf 0xF0 = [some (.beq 0x34), some (.sbcIndy 0x34), none, none,
     none, some (.sbcZpx 0x34), some (.incZpx 0x34), none,
     some .sed, some (.sbcAbsy 0x1234), none, none,
     none, some (.sbcAbsx 0x1234), some (.incAbsx 0x1234), none] := by decide
/-- The same number with 8 bits has operand bytes of zeros. -/
theorem test_decode_short_word : decodeTableWord 8 0x1234AD = some (.ldaAbs 0x0000) := by decide

/-- A truncated instruction is rejected by name, and so is an empty list. -/
theorem test_decode_truncated :
    decode [0xAD, 0x00] = .error (.truncated 0xAD) ∧ decode [0xA9] = .error (.truncated 0xA9) := by decide

/-! ### The vectors of 95_test_vectors.md, one step each -/

/-- The start of a vector: what differs from the reset state with RESET_ENTRY = fixed(0xC000). -/
structure Start where
  bytes : List Byte
  a   : Byte := 0x00
  x   : Byte := 0x00
  y   : Byte := 0x00
  sp  : Byte := 0xFD
  p   : Byte := 0x24
  pc  : Word := 0xC000
  mem : List (Word × Byte) := []
  irq : Bool := false
  nmi : Bool := false

/-- The state a vector starts from, its bytes at CPU addresses; the poll mask is the I of its P. -/
def Start.state (v : Start) : State :=
  let p := Status.ofByte v.p
  pokeBytes v.pc v.bytes
    { State.reset with
      a := v.a, x := v.x, y := v.y, sp := v.sp, pc := v.pc, p := p, iPoll := p.i
      irq := v.irq, nmiPending := v.nmi, config := ⟨.fixed 0xC000, .flat⟩
      mem := v.mem.foldl (fun m cell => m.write (cellIndex cell.1) cell.2) [] }

/-- The end of a vector: A, X, Y, SP, P, PC, cycles; and bytes at CPU addresses. -/
abbrev End := List Nat × List (Word × Byte)

/-- One step of a vector ends as it says. -/
def Start.ends (v : Start) (e : End) : Bool :=
  match step v.state with
  | .next t =>
    [t.a.toNat, t.x.toNat, t.y.toNat, t.sp.toNat, t.p.toByte.toNat, t.pc.toNat, t.cycles] == e.1 &&
      e.2.all (fun cell => t.peek cell.1 == cell.2)
  | _ => false

/-- Every vector of a list ends as it says. -/
def holds (vectors : List (Start × End)) : Bool := vectors.all fun v => v.1.ends v.2

/-- Vectors V1 to V10 of 95_test_vectors.md. -/
theorem test_vectors_load_store_1 : holds
  [
   -- V1: LDA #$00 (source §8)
   ({ bytes := [0xA9, 0x00], a := 0x55 },
     [0x00, 0x00, 0x00, 0xFD, 0x26, 0xC002, 2], []),
   -- V2: LDA #$80 (source §8)
   ({ bytes := [0xA9, 0x80] },
     [0x80, 0x00, 0x00, 0xFD, 0xA4, 0xC002, 2], []),
   -- V3: LDA zp,X wraps in page 0
   ({ bytes := [0xB5, 0x10], x := 0xF5, mem := [(0x0005, 0x7F)] },
     [0x7F, 0xF5, 0x00, 0xFD, 0x24, 0xC002, 4], []),
   -- V4: LDA abs,X crosses a page (+1)
   ({ bytes := [0xBD, 0xF0, 0x12], x := 0x20, mem := [(0x1310, 0x00)] },
     [0x00, 0x20, 0x00, 0xFD, 0x26, 0xC003, 5], []),
   -- V5: LDA abs,X wraps at 0xFFFF
   ({ bytes := [0xBD, 0xFF, 0xFF], x := 0x02, mem := [(0x0001, 0x99)] },
     [0x99, 0x02, 0x00, 0xFD, 0xA4, 0xC003, 5], []),
   -- V6: LDA (zp,X) pointer wraps in page 0
   ({ bytes := [0xA1, 0xFE], x := 0x01, mem := [(0x0000, 0x12), (0x00FF, 0x34), (0x1234, 0xAB)] },
     [0xAB, 0x01, 0x00, 0xFD, 0xA4, 0xC002, 6], []),
   -- V7: LDA (zp),Y crosses a page (+1)
   ({ bytes := [0xB1, 0xFF], y := 0x01, mem := [(0x0000, 0x12), (0x00FF, 0xFF), (0x1300, 0x01)] },
     [0x01, 0x00, 0x01, 0xFD, 0x24, 0xC002, 6], []),
   -- V8: LDX zp,Y wraps in page 0
   ({ bytes := [0xB6, 0xFF], y := 0x01, mem := [(0x0000, 0x80)] },
     [0x00, 0x80, 0x01, 0xFD, 0xA4, 0xC002, 4], []),
   -- V9: LDY abs,X no cross
   ({ bytes := [0xBC, 0x00, 0x02], x := 0x05, mem := [(0x0205, 0x00)] },
     [0x00, 0x05, 0x00, 0xFD, 0x26, 0xC003, 4], []),
   -- V10: STA abs,X pays no page penalty
   ({ bytes := [0x9D, 0xF0, 0x12], a := 0x42, x := 0x20 },
     [0x42, 0x20, 0x00, 0xFD, 0x24, 0xC003, 5], [(0x1310, 0x42)])] = true := by decide

/-- Vectors V11 to V19 of 95_test_vectors.md. -/
theorem test_vectors_load_store_2 : holds
  [
   -- V11: STA into a RAM mirror
   ({ bytes := [0x8D, 0x01, 0x08], a := 0x5A },
     [0x5A, 0x00, 0x00, 0xFD, 0x24, 0xC003, 4], [(0x0001, 0x5A), (0x1801, 0x5A)]),
   -- V12: STX zp,Y
   ({ bytes := [0x96, 0xF0], x := 0x11, y := 0x20 },
     [0x00, 0x11, 0x20, 0xFD, 0x24, 0xC002, 4], [(0x0010, 0x11)]),
   -- V13: STY abs
   ({ bytes := [0x8C, 0x00, 0x03], y := 0xFE },
     [0x00, 0x00, 0xFE, 0xFD, 0x24, 0xC003, 4], [(0x0300, 0xFE)]),
   -- V14: TAX sets N
   ({ bytes := [0xAA], a := 0x90 },
     [0x90, 0x90, 0x00, 0xFD, 0xA4, 0xC001, 2], []),
   -- V15: TAY sets Z
   ({ bytes := [0xA8], a := 0x00, y := 0x33 },
     [0x00, 0x00, 0x00, 0xFD, 0x26, 0xC001, 2], []),
   -- V16: TXA
   ({ bytes := [0x8A], a := 0xFF, x := 0x01 },
     [0x01, 0x01, 0x00, 0xFD, 0x24, 0xC001, 2], []),
   -- V17: TYA
   ({ bytes := [0x98], y := 0x80 },
     [0x80, 0x00, 0x80, 0xFD, 0xA4, 0xC001, 2], []),
   -- V18: TSX reads SP and sets N
   ({ bytes := [0xBA], sp := 0x80 },
     [0x00, 0x80, 0x00, 0x80, 0xA4, 0xC001, 2], []),
   -- V19: TXS sets no flag
   ({ bytes := [0x9A], x := 0x00, p := 0xA4 },
     [0x00, 0x00, 0x00, 0x00, 0xA4, 0xC001, 2], [])] = true := by decide

/-- Vectors V20 to V29 of 95_test_vectors.md. -/
theorem test_vectors_arith_1 : holds
  [
   -- V20: ADC 0x50+0x50, C=0 (source §8)
   ({ bytes := [0x69, 0x50], a := 0x50, p := 0x24 },
     [0xA0, 0x00, 0x00, 0xFD, 0xE4, 0xC002, 2], []),
   -- V21: ADC 0xFF+0x01, C=0 (source §8)
   ({ bytes := [0x69, 0x01], a := 0xFF, p := 0x24 },
     [0x00, 0x00, 0x00, 0xFD, 0x27, 0xC002, 2], []),
   -- V22: ADC with carry in, signed overflow
   ({ bytes := [0x69, 0x00], a := 0x7F, p := 0x25 },
     [0x80, 0x00, 0x00, 0xFD, 0xE4, 0xC002, 2], []),
   -- V23: ADC 0x80+0x80 (C and V)
   ({ bytes := [0x69, 0x80], a := 0x80, p := 0x24 },
     [0x00, 0x00, 0x00, 0xFD, 0x67, 0xC002, 2], []),
   -- V24: ADC stays binary with D = 1
   ({ bytes := [0x69, 0x01], a := 0x09, p := 0x2C },
     [0x0A, 0x00, 0x00, 0xFD, 0x2C, 0xC002, 2], []),
   -- V25: SBC 0x05-0x03, C=1 (no borrow)
   ({ bytes := [0xE9, 0x03], a := 0x05, p := 0x25 },
     [0x02, 0x00, 0x00, 0xFD, 0x25, 0xC002, 2], []),
   -- V26: SBC 0x05-0x03, C=0 (borrow in)
   ({ bytes := [0xE9, 0x03], a := 0x05, p := 0x24 },
     [0x01, 0x00, 0x00, 0xFD, 0x25, 0xC002, 2], []),
   -- V27: SBC 0x50-0xB0 signed overflow
   ({ bytes := [0xE9, 0xB0], a := 0x50, p := 0x25 },
     [0xA0, 0x00, 0x00, 0xFD, 0xE4, 0xC002, 2], []),
   -- V28: SBC 0x00-0x01 borrow out
   ({ bytes := [0xE9, 0x01], a := 0x00, p := 0x25 },
     [0xFF, 0x00, 0x00, 0xFD, 0xA4, 0xC002, 2], []),
   -- V29: SBC stays binary with D = 1
   ({ bytes := [0xE9, 0x01], a := 0x10, p := 0x2D },
     [0x0F, 0x00, 0x00, 0xFD, 0x2D, 0xC002, 2], [])] = true := by decide

/-- Vectors V30 to V37 of 95_test_vectors.md. -/
theorem test_vectors_arith_2 : holds
  [
   -- V30: AND
   ({ bytes := [0x29, 0x0F], a := 0xF0 },
     [0x00, 0x00, 0x00, 0xFD, 0x26, 0xC002, 2], []),
   -- V31: ORA
   ({ bytes := [0x09, 0x80], a := 0x01 },
     [0x81, 0x00, 0x00, 0xFD, 0xA4, 0xC002, 2], []),
   -- V32: EOR
   ({ bytes := [0x49, 0xFF], a := 0xFF },
     [0x00, 0x00, 0x00, 0xFD, 0x26, 0xC002, 2], []),
   -- V33: CMP equal
   ({ bytes := [0xC9, 0x40], a := 0x40 },
     [0x40, 0x00, 0x00, 0xFD, 0x27, 0xC002, 2], []),
   -- V34: CMP less (unsigned)
   ({ bytes := [0xC9, 0x41], a := 0x40 },
     [0x40, 0x00, 0x00, 0xFD, 0xA4, 0xC002, 2], []),
   -- V35: CMP 0x80 vs 0x00
   ({ bytes := [0xC9, 0x00], a := 0x80 },
     [0x80, 0x00, 0x00, 0xFD, 0xA5, 0xC002, 2], []),
   -- V36: CPX abs
   ({ bytes := [0xEC, 0x00, 0x02], x := 0x05, mem := [(0x0200, 0x06)] },
     [0x00, 0x05, 0x00, 0xFD, 0xA4, 0xC003, 4], []),
   -- V37: CPY zp
   ({ bytes := [0xC4, 0x10], y := 0xFF, mem := [(0x0010, 0x01)] },
     [0x00, 0x00, 0xFF, 0xFD, 0xA5, 0xC002, 3], [])] = true := by decide

/-- Vectors V38 to V46 of 95_test_vectors.md. -/
theorem test_vectors_arith_3 : holds
  [
   -- V38: BIT: Z from A&M, N V from M
   ({ bytes := [0x24, 0x10], a := 0x01, p := 0x24, mem := [(0x0010, 0xC0)] },
     [0x01, 0x00, 0x00, 0xFD, 0xE6, 0xC002, 3], []),
   -- V39: BIT: nonzero AND, clears N V
   ({ bytes := [0x2C, 0x00, 0x02], a := 0xFF, p := 0xE4, mem := [(0x0200, 0x01)] },
     [0xFF, 0x00, 0x00, 0xFD, 0x24, 0xC003, 4], []),
   -- V40: INC zp wraps
   ({ bytes := [0xE6, 0x10], mem := [(0x0010, 0xFF)] },
     [0x00, 0x00, 0x00, 0xFD, 0x26, 0xC002, 5], [(0x0010, 0x00)]),
   -- V41: INC abs,X (7 cycles, no penalty)
   ({ bytes := [0xFE, 0xFF, 0x02], x := 0x01, mem := [(0x0300, 0x7F)] },
     [0x00, 0x01, 0x00, 0xFD, 0xA4, 0xC003, 7], [(0x0300, 0x80)]),
   -- V42: DEC zp wraps
   ({ bytes := [0xC6, 0x10], mem := [(0x0010, 0x00)] },
     [0x00, 0x00, 0x00, 0xFD, 0xA4, 0xC002, 5], [(0x0010, 0xFF)]),
   -- V43: INX wraps
   ({ bytes := [0xE8], x := 0xFF },
     [0x00, 0x00, 0x00, 0xFD, 0x26, 0xC001, 2], []),
   -- V44: INY
   ({ bytes := [0xC8], y := 0x7F },
     [0x00, 0x00, 0x80, 0xFD, 0xA4, 0xC001, 2], []),
   -- V45: DEX to zero
   ({ bytes := [0xCA], x := 0x01 },
     [0x00, 0x00, 0x00, 0xFD, 0x26, 0xC001, 2], []),
   -- V46: DEY wraps
   ({ bytes := [0x88], y := 0x00 },
     [0x00, 0x00, 0xFF, 0xFD, 0xA4, 0xC001, 2], [])] = true := by decide

/-- Vectors V47 to V52 of 95_test_vectors.md. -/
theorem test_vectors_shift_rotate : holds
  [
   -- V47: ASL A
   ({ bytes := [0x0A], a := 0x81 },
     [0x02, 0x00, 0x00, 0xFD, 0x25, 0xC001, 2], []),
   -- V48: ASL zp (RMW)
   ({ bytes := [0x06, 0x10], mem := [(0x0010, 0x40)] },
     [0x00, 0x00, 0x00, 0xFD, 0xA4, 0xC002, 5], [(0x0010, 0x80)]),
   -- V49: LSR A to zero
   ({ bytes := [0x4A], a := 0x01 },
     [0x00, 0x00, 0x00, 0xFD, 0x27, 0xC001, 2], []),
   -- V50: ROL A with C = 1
   ({ bytes := [0x2A], a := 0x80, p := 0x25 },
     [0x01, 0x00, 0x00, 0xFD, 0x25, 0xC001, 2], []),
   -- V51: ROR A with C = 1
   ({ bytes := [0x6A], a := 0x01, p := 0x25 },
     [0x80, 0x00, 0x00, 0xFD, 0xA5, 0xC001, 2], []),
   -- V52: ROR abs,X
   ({ bytes := [0x7E, 0x00, 0x02], x := 0x01, p := 0x24, mem := [(0x0201, 0x02)] },
     [0x00, 0x01, 0x00, 0xFD, 0x24, 0xC003, 7], [(0x0201, 0x01)])] = true := by decide

/-- Vectors V53 to V59 of 95_test_vectors.md. -/
theorem test_vectors_stack : holds
  [
   -- V53: PHA
   ({ bytes := [0x48], a := 0x77 },
     [0x77, 0x00, 0x00, 0xFC, 0x24, 0xC001, 3], [(0x01FD, 0x77)]),
   -- V54: PHA at SP = 0x00 wraps
   ({ bytes := [0x48], a := 0x77, sp := 0x00 },
     [0x77, 0x00, 0x00, 0xFF, 0x24, 0xC001, 3], [(0x0100, 0x77)]),
   -- V55: PHP after reset pushes 0x34
   ({ bytes := [0x08] },
     [0x00, 0x00, 0x00, 0xFC, 0x24, 0xC001, 3], [(0x01FD, 0x34)]),
   -- V56: PLA sets flags
   ({ bytes := [0x68], sp := 0xFC, mem := [(0x01FD, 0x00)] },
     [0x00, 0x00, 0x00, 0xFD, 0x26, 0xC001, 4], []),
   -- V57: PLA at SP = 0xFF wraps
   ({ bytes := [0x68], sp := 0xFF, mem := [(0x0100, 0x80)] },
     [0x80, 0x00, 0x00, 0x00, 0xA4, 0xC001, 4], []),
   -- V58: PLP of 0xFF
   ({ bytes := [0x28], sp := 0xFC, mem := [(0x01FD, 0xFF)] },
     [0x00, 0x00, 0x00, 0xFD, 0xEF, 0xC001, 4], []),
   -- V59: PLP of 0x00
   ({ bytes := [0x28], sp := 0xFC, mem := [(0x01FD, 0x00)] },
     [0x00, 0x00, 0x00, 0xFD, 0x20, 0xC001, 4], [])] = true := by decide

/-- Vectors V60 to V67 of 95_test_vectors.md. -/
theorem test_vectors_control_1 : holds
  [
   -- V60: JMP abs
   ({ bytes := [0x4C, 0x00, 0x80] },
     [0x00, 0x00, 0x00, 0xFD, 0x24, 0x8000, 3], []),
   -- V61: JMP ($02FF) page wrap
   ({ bytes := [0x6C, 0xFF, 0x02], mem := [(0x0200, 0x12), (0x02FF, 0x34), (0x0300, 0x56)] },
     [0x00, 0x00, 0x00, 0xFD, 0x24, 0x1234, 5], []),
   -- V62: JSR
   ({ bytes := [0x20, 0x34, 0x12] },
     [0x00, 0x00, 0x00, 0xFB, 0x24, 0x1234, 6], [(0x01FD, 0xC0), (0x01FC, 0x02)]),
   -- V63: RTS
   ({ bytes := [0x60], sp := 0xFB, mem := [(0x01FC, 0x02), (0x01FD, 0x06)] },
     [0x00, 0x00, 0x00, 0xFD, 0x24, 0x0603, 6], []),
   -- V64: RTS of 0xFFFF
   ({ bytes := [0x60], sp := 0xFB, mem := [(0x01FC, 0xFF), (0x01FD, 0xFF)] },
     [0x00, 0x00, 0x00, 0xFD, 0x24, 0x0000, 6], []),
   -- V65: BCC taken, same page
   ({ bytes := [0x90, 0x10], p := 0x24 },
     [0x00, 0x00, 0x00, 0xFD, 0x24, 0xC012, 3], []),
   -- V66: BCS not taken
   ({ bytes := [0xB0, 0x10], p := 0x24 },
     [0x00, 0x00, 0x00, 0xFD, 0x24, 0xC002, 2], []),
   -- V67: BEQ taken, page crossed
   ({ bytes := [0xF0, 0x20], p := 0x26, pc := 0x10F0 },
     [0x00, 0x00, 0x00, 0xFD, 0x26, 0x1112, 4], [])] = true := by decide

/-- Vectors V68 to V73 of 95_test_vectors.md. -/
theorem test_vectors_control_2 : holds
  [
   -- V68: BMI backward, page crossed
   ({ bytes := [0x30, 0x80], p := 0xA4 },
     [0x00, 0x00, 0x00, 0xFD, 0xA4, 0xBF82, 4], []),
   -- V69: BNE backward, same page
   ({ bytes := [0xD0, 0xFB], p := 0x24, pc := 0xC008 },
     [0x00, 0x00, 0x00, 0xFD, 0x24, 0xC005, 3], []),
   -- V70: BPL across 0xFFFF
   ({ bytes := [0x10, 0x05], p := 0x24, pc := 0xFFFE },
     [0x00, 0x00, 0x00, 0xFD, 0x24, 0x0005, 3], []),
   -- V71: BVC not taken
   ({ bytes := [0x50, 0x10], p := 0x64 },
     [0x00, 0x00, 0x00, 0xFD, 0x64, 0xC002, 2], []),
   -- V72: BVS taken
   ({ bytes := [0x70, 0x7F], p := 0x64, pc := 0x0200 },
     [0x00, 0x00, 0x00, 0xFD, 0x64, 0x0281, 3], []),
   -- V73: BEQ to itself (disp 0xFE)
   ({ bytes := [0xF0, 0xFE], p := 0x26 },
     [0x00, 0x00, 0x00, 0xFD, 0x26, 0xC000, 3], [])] = true := by decide

/-- Vectors V74 to V83 of 95_test_vectors.md. -/
theorem test_vectors_flags_system : holds
  [
   -- V74: CLC
   ({ bytes := [0x18], p := 0x25 },
     [0x00, 0x00, 0x00, 0xFD, 0x24, 0xC001, 2], []),
   -- V75: CLD
   ({ bytes := [0xD8], p := 0x2C },
     [0x00, 0x00, 0x00, 0xFD, 0x24, 0xC001, 2], []),
   -- V76: CLI
   ({ bytes := [0x58], p := 0x24 },
     [0x00, 0x00, 0x00, 0xFD, 0x20, 0xC001, 2], []),
   -- V77: CLV
   ({ bytes := [0xB8], p := 0x64 },
     [0x00, 0x00, 0x00, 0xFD, 0x24, 0xC001, 2], []),
   -- V78: SEC
   ({ bytes := [0x38], p := 0x24 },
     [0x00, 0x00, 0x00, 0xFD, 0x25, 0xC001, 2], []),
   -- V79: SED
   ({ bytes := [0xF8], p := 0x24 },
     [0x00, 0x00, 0x00, 0xFD, 0x2C, 0xC001, 2], []),
   -- V80: SEI
   ({ bytes := [0x78], p := 0x20 },
     [0x00, 0x00, 0x00, 0xFD, 0x24, 0xC001, 2], []),
   -- V81: NOP
   ({ bytes := [0xEA] },
     [0x00, 0x00, 0x00, 0xFD, 0x24, 0xC001, 2], []),
   -- V82: BRK
   ({ bytes := [0x00, 0xFF], p := 0xA5, mem := [(0xFFFE, 0x00), (0xFFFF, 0xD0)] },
     [0x00, 0x00, 0x00, 0xFA, 0xA5, 0xD000, 7], [(0x01FD, 0xC0), (0x01FC, 0x02), (0x01FB, 0xB5)]),
   -- V83: RTI
   ({ bytes := [0x40], sp := 0xFA, mem := [(0x01FB, 0x34), (0x01FC, 0x02), (0x01FD, 0xC0)] },
     [0x00, 0x00, 0x00, 0xFD, 0x24, 0xC002, 6], [])] = true := by decide

/-- Vectors V85 to V88 of 95_test_vectors.md. -/
theorem test_vectors_interrupts : holds
  [
   -- V85: IRQ taken (I = 0, i_poll = 0)
   ({ bytes := [0xEA], p := 0x20, mem := [(0xFFFE, 0x00), (0xFFFF, 0xD0)], irq := true },
     [0x00, 0x00, 0x00, 0xFA, 0x24, 0xD000, 7], [(0x01FD, 0xC0), (0x01FC, 0x00), (0x01FB, 0x20)]),
   -- V86: IRQ masked (I = 1)
   ({ bytes := [0xEA], p := 0x24, mem := [(0xFFFE, 0x00), (0xFFFF, 0xD0)], irq := true },
     [0x00, 0x00, 0x00, 0xFD, 0x24, 0xC001, 2], []),
   -- V87: NMI taken with I = 1
   ({ bytes := [0xEA], p := 0xA5, mem := [(0xFFFA, 0x00), (0xFFFB, 0xE0)], nmi := true },
     [0x00, 0x00, 0x00, 0xFA, 0xA5, 0xE000, 7], [(0x01FD, 0xC0), (0x01FC, 0x00), (0x01FB, 0xA5)]),
   -- V88: NMI before IRQ
   ({ bytes := [0xEA], p := 0x20, mem := [(0xFFFA, 0x00), (0xFFFB, 0xE0), (0xFFFE, 0x00), (0xFFFF, 0xD0)], irq := true, nmi := true },
     [0x00, 0x00, 0x00, 0xFA, 0x24, 0xE000, 7], [])] = true := by decide
/-- Vector V84: an illegal byte faults with the record, and the halted core keeps its state. -/
theorem test_vector_fatal :
    let s := Start.state { bytes := [0x02], a := 0x11 }
    let record : FatalRecord := ⟨0xC000, 0x02, ⟨0x11, 0x00, 0x00, 0xFD, 0x24, 0⟩⟩
    step s = .fault (.fatalOpcode record) ∧ afterStep s = { s with halted := some record } ∧
      step (afterStep s) = .fault (.halted record) := ⟨rfl, rfl, rfl⟩

/-- Vectors V89 and V90: reset from a halted state, with either RESET_ENTRY. -/
theorem test_vector_reset :
    let record : FatalRecord := ⟨0xC000, 0x02, ⟨0x11, 0x00, 0x00, 0xFD, 0x24, 0⟩⟩
    let s : State := { Start.state { bytes := [], a := 0x11, x := 0x22, y := 0x33, sp := 0x44, p := 0xFF, mem := [(0xFFFD, 0x80)] } with
      halted := some record, nmiPending := true, skipPoll := true, cycles := 9 }
    let fresh := fun (pc : Word) (config : Config) => { State.reset with pc := pc, mem := [(0xFFFD, 0x80)], config := config }
    hostReset { s with config := ⟨.vector, .flat⟩ } = fresh 0x8000 ⟨.vector, .flat⟩ ∧
      hostReset { s with config := ⟨.fixed 0xC000, .flat⟩ } = fresh 0xC000 ⟨.fixed 0xC000, .flat⟩ := by decide

/-- Vector V91 and example L1.1: the four mirrors, and the external region beside them. -/
theorem test_vector_mirrors :
    let s := memWrite 0x1FFF 0xAB (memWrite 0x0123 0x5A State.reset)
    [0x0123, 0x0923, 0x1123, 0x1923].all (fun a => (memRead a s).value == 0x5A) = true ∧
      [0x07FF, 0x0FFF, 0x17FF, 0x1FFF].all (fun a => (memRead a s).value == 0xAB) = true ∧
      (memRead 0x2000 s).value = (memRead 0x2000 State.reset).value := by decide

/-- Vector V92: the external region is not mirrored. -/
theorem test_vector_external :
    let s := memWrite 0x0000 0x22 (memWrite 0x2000 0x11 State.reset)
    (memRead 0x2000 s).value = 0x11 ∧ (memRead 0x0000 s).value = 0x22 ∧
      (memRead 0x2800 s).value = (memRead 0x2800 State.reset).value := by decide

/-- Vector V93: PC wraps on fetch. -/
theorem test_vector_pc_wraps : holds
  [({ bytes := [0xA9, 0x07], pc := 0xFFFF }, [0x07, 0x00, 0x00, 0xFD, 0x24, 0x0001, 2], [])] = true := by decide

/-- Program P5 of 95_test_vectors.md, its first three steps: the IRQ is taken after INX, not after CLI. -/
theorem test_cli_latency :
    let s := Start.state { bytes := [0x58, 0xE8, 0x4C, 0x02, 0xC0], irq := true, mem := [(0xFFFF, 0xD0)] }
    let t := afterStep (afterStep s)
    t.x = 0x01 ∧ t.cycles = 4 ∧ pollInterrupt (afterStep s) = none ∧ pollInterrupt t = some .irq := by decide

/-- 60_exceptions.md R145 and D16: an NMI raised right after BRK is taken after one instruction of BRK's handler. -/
theorem test_brk_handler_before_nmi :
    let s := Start.state { bytes := [0x00], mem := [(0xD000, 0xE8), (0xFFFF, 0xD0), (0xFFFB, 0xE0)] }
    let t := afterStep (nmiRequest (afterStep s))
    t.x = 0x01 ∧ t.pc = 0xD001 ∧ t.nmiPending = true ∧ (afterStep t).pc = 0xE000 := by decide

/-- A word placed where the step fetches is the instruction the step runs, right after reset. -/
theorem test_fetch_word :
    step (State.reset.withFetchWord 16 0x42A9) =
      .next { State.reset with mem := [(0, 0xA9), (1, 0x42)], pc := 0x0002, a := 0x42, cycles := 2 } := rfl

/-! ### What meets the hypotheses of each statement of Obligations.lean -/

/-- A running core at 0xC000 with bytes there; `halted` is empty and no interrupt waits. -/
def running (bytes : List Byte) : State := Start.state { bytes := bytes }

/-- The same core with EXT_BUS = external and PC in RAM, where its bytes stand. -/
def runningExternal (bytes : List Byte) : State :=
  { Start.state { bytes := bytes, pc := 0x0200 } with config := ⟨.fixed 0x0200, .external⟩ }

/-- A core that met the illegal byte 0x02. -/
def stopped : State := afterStep (running [0x02])

theorem witness_DecodedBytesAreTheEncoding :
    decode [0x20, 0x34, 0x12, 0xEA] = .ok (.jsr 0x1234, [0xEA]) ∧ decode [0xEA] = .ok (.nop, []) ∧
      decode [0xA9, 0x80] = .ok (.ldaImm 0x80, []) := by decide

theorem witness_ExactlyTheListedBytesAreIllegal :
    decode [0x02] = .error (.illegalOpcode 0x02) ∧ (0x02 : Byte).toNat ∈ illegalBytes ∧ (0x00 : Byte).toNat ∉ illegalBytes := by
  decide

theorem witness_RamMirrorsShareStorage :
    (0x1FFF : Word).toNat ≤ 0x1FFF ∧ (0x07FF : Word).toNat = (0x1FFF : Word).toNat % 0x800 ∧
      (0x0FFF : Word).toNat = (0x1FFF : Word).toNat % 0x800 + 0x800 ∧
      (0x17FF : Word).toNat = (0x1FFF : Word).toNat % 0x800 + 0x1000 ∧
      (0x1FFF : Word).toNat = (0x1FFF : Word).toNat % 0x800 + 0x1800 ∧
      ∀ w ∈ [((0x17FE : Word), (0x01 : Byte)), (0x2000, 0x02), (0x27FF, 0x03)],
        ¬ (w.1.toNat ≤ 0x1FFF ∧ w.1.toNat % 0x800 = (0x1FFF : Word).toNat % 0x800) :=
  ⟨by decide, by decide, by decide, by decide, by decide, by simp⟩

theorem witness_WriteChangesOneCell :
    (runningExternal []).hostAnswers 0x1FFF = false ∧ (running []).hostAnswers 0x2000 = false ∧
      (running []).hostAnswers 0xFFFF = false := by decide

theorem witness_ExternalRegionFollowsExtBus :
    0x1FFF < (0x2000 : Word).toNat ∧ 0x1FFF < (0xFFFF : Word).toNat ∧ (running []).config.extBus = .flat ∧
      (runningExternal []).config.extBus = .external := by decide

theorem witness_ExternalModifyIsOneReadThenOneWrite :
    modifyFormOf (.incAbs 0x2000) = some (.mem (.abs 0x2000)) ∧
      isOne (.incAbs 0x2000) [.INC, .DEC, .ASL, .LSR, .ROL, .ROR] ∧
      (runningExternal []).hostAnswers (resolve (.abs 0x2000) (runningExternal [])).ea = true := by decide

theorem witness_loads_and_stores :
    isOne (.ldaIndy 0xFF) [.LDA] ∧ isOne (.ldxZpy 0xFF) [.LDX] ∧ isOne (.ldyAbsx 0xFFFF) [.LDY] ∧
      isOne (.staIndx 0xFF) [.STA] ∧ isOne (.stxZpy 0xFF) [.STX] ∧ isOne (.styAbs 0xFFFF) [.STY] := by decide

theorem witness_arithmetic_and_logic :
    isOne (.adcImm 0x80) [.ADC] ∧ isOne (.sbcAbsy 0xFFFF) [.SBC] ∧ isOne (.andZp 0x00) [.AND] ∧
      isOne (.oraIndx 0xFF) [.ORA] ∧ isOne (.eorIndy 0xFF) [.EOR] ∧ isOne (.cmpImm 0x00) [.CMP] ∧
      isOne (.cpxImm 0xFF) [.CPX] ∧ isOne (.cpyAbs 0xFFFF) [.CPY] ∧ isOne (.bitZp 0x00) [.BIT] ∧
      isOne (.incZpx 0xFF) [.INC] ∧ isOne (.decAbsx 0xFFFF) [.DEC] := by decide

theorem witness_ShiftsAndRotatesByOneBit :
    isOne .aslAcc [.ASL] ∧ isOne (.lsrZp 0x00) [.LSR] ∧ isOne .rolAcc [.ROL] ∧ isOne (.rorAbsx 0xFFFF) [.ROR] := by decide

theorem witness_StackEngineLaws :
    (List.replicate 256 (0x5A : Byte)).length = 256 ∧ (Start.state { bytes := [], sp := 0x00 }).sp = 0x00 ∧
      (Start.state { bytes := [], sp := 0xFF }).sp = 0xFF := ⟨List.length_replicate, rfl, rfl⟩

theorem witness_CallPushesPcThenFetchesHighByte :
    (running [0x20]).halted = none ∧ pollInterrupt (running [0x20]) = none ∧
      (fetch { running [0x20] with skipPoll := false }).value = 0x20 := by decide

theorem witness_CallReachesEncodedTarget :
    let s := { running [0x20, 0x34, 0x12] with pc := 0xC002 }
    s.hostAnswers s.pc = false ∧ s.peek s.pc = hiByte 0x1234 ∧ cellIndex s.pc ≠ stackBelow s 0 ∧
      cellIndex s.pc ≠ stackBelow s 1 := by decide

theorem witness_CallThenReturnComesBack : ∃ t, exec (.jsr 0x1234) (running []) = .next t ∧ t.sp = 0xFB := ⟨_, rfl, rfl⟩

/-- Both outcomes of each of the eight branches. -/
theorem witness_BranchesFollowTheirFlag :
    let clear := Status.ofByte 0x00
    let set := Status.ofByte 0xFF
    [(Mnemonic.BCC, Instr.bcc 0x80), (.BNE, .bne 0x80), (.BPL, .bpl 0x80), (.BVC, .bvc 0x80)].all
        (fun (m, i) => branchOf clear i == some (m, 0x80, true) && branchOf set i == some (m, 0x80, false)) = true ∧
      [(Mnemonic.BCS, Instr.bcs 0x7F), (.BEQ, .beq 0x7F), (.BMI, .bmi 0x7F), (.BVS, .bvs 0x7F)].all
        (fun (m, i) => branchOf clear i == some (m, 0x7F, false) && branchOf set i == some (m, 0x7F, true)) = true := by
  decide

/-- NMI waiting, IRQ waiting, a masked IRQ, a skipped poll, and the step after an interrupt entry and after a BRK. -/
theorem witness_PollTakesNmiBeforeUnmaskedIrq :
    let nmi := Start.state { bytes := [0xEA], nmi := true, irq := true }
    let irq := Start.state { bytes := [0xEA], p := 0x20, irq := true }
    let masked := Start.state { bytes := [0xEA], p := 0x24, irq := true }
    let entered := { interruptEntry .nmi (Start.state { bytes := [], mem := [(0xC000, 0xEA), (0xFFFB, 0xC0)] }) with irq := true, nmiPending := true }
    (nmi.halted = none ∧ nmi.skipPoll = false ∧ nmi.nmiPending = true) ∧
      (irq.halted = none ∧ irq.skipPoll = false ∧ irq.nmiPending = false ∧ irq.irq = true ∧ irq.iPoll = false) ∧
      (masked.nmiPending = false ∧ masked.iPoll = true ∧ ∃ f, fetchInstr { masked with skipPoll := false } = .instr .nop f) ∧
      (entered.halted = none ∧ entered.skipPoll = true ∧
        ∃ f, fetchInstr { entered with skipPoll := false } = .instr .nop f) ∧
      ∃ u, exec .brk (Start.state { bytes := [], mem := [(0xC000, 0xEA), (0xFFFF, 0xC0)] }) = .next u ∧
        ∃ f, fetchInstr { u with irq := true, nmiPending := true, skipPoll := false } = .instr .nop f :=
  ⟨⟨rfl, rfl, rfl⟩, ⟨rfl, rfl, rfl, rfl, rfl⟩, ⟨rfl, rfl, _, rfl⟩, ⟨rfl, rfl, _, rfl⟩, _, rfl, _, rfl⟩

/-- An instruction of each kind of poll mask. -/
theorem witness_PollMaskAfterEveryInstruction :
    (∃ t, exec .cli (running []) = .next t ∧ t.iPoll = true ∧ t.p.i = false) ∧
      ∃ t, exec .rti (Start.state { bytes := [], sp := 0xFA }) = .next t ∧ t.iPoll = false := ⟨⟨_, rfl, rfl, rfl⟩, _, rfl, rfl⟩

/-- A handler that stored a byte elsewhere and pushed one below its three, SP back as it was. -/
theorem witness_ReturnUndoesHandlerEntry :
    let s := running []
    let worked := fun (t : State) => memWrite 0x0200 0x5A (memWrite 0x01FA 0x33 t)
    let keeps := fun (u t : State) =>
      u.sp = t.sp ∧ ∀ k, k < 3 → u.mem.read (stackBelow s k) = t.mem.read (stackBelow s k)
    keeps (worked (interruptEntry .nmi s)) (interruptEntry .nmi s) ∧
      (worked (interruptEntry .nmi s)).mem ≠ (interruptEntry .nmi s).mem ∧
      keeps (worked (interruptEntry .irq s)) (interruptEntry .irq s) ∧
      ∃ t, exec .brk s = .next t ∧ keeps (worked t) t :=
  ⟨⟨rfl, by decide⟩, by decide, ⟨rfl, by decide⟩, _, rfl, rfl, by decide⟩

/-- An illegal byte and a legal one. -/
theorem witness_IllegalOpcodeIsFatal :
    (running [0xFF]).halted = none ∧ pollInterrupt (running [0xFF]) = none ∧
      (memRead 0xC000 (running [0xFF])).value.toNat ∈ illegalBytes ∧
      (memRead 0xC000 (running [0x00])).value.toNat ∉ illegalBytes := by decide

theorem witness_HaltedUntilReset :
    ∃ record, step (running [0x02]) = .fault (.fatalOpcode record) ∧ stopped.halted = some record ∧
      Event.reset ∉ [Event.step, .nmi, .irq true, .poke 0xC000 0xEA] := ⟨_, rfl, rfl, by decide⟩

/-- The latch cleared by a step and by a reset, and kept with I = 1. -/
theorem witness_NmiIsLatchedUntilTaken :
    let s := Start.state { bytes := [0xEA], nmi := true }
    s.halted = none ∧ s.skipPoll = false ∧ s.nmiPending = true ∧ (Event.step.apply s).nmiPending = false ∧
      (Event.reset.apply s).nmiPending = false ∧ (Event.apply (.irq true) s).nmiPending = true := by decide

/-- One, two and three bytes, and JSR. -/
theorem witness_StepRunsDecodedInstruction :
    let s := running [0xEA]
    s.halted = none ∧ pollInterrupt s = none ∧ s.hostAnswers s.pc = false ∧ s.hostAnswers (s.pc + 1) = false ∧
      s.hostAnswers (s.pc + 2) = false ∧
      [[0xEA], [0xA9, 0x01], [0xAD, 0x34, 0x12], [0x20, 0x34, 0x12]].map
        (fun bytes => let s := running bytes
          match decode [s.peek s.pc, s.peek (s.pc + 1), s.peek (s.pc + 2)] with
          | .ok (i, rest) => some (i, rest.length)
          | .error _ => none) =
        [some (.nop, 2), some (.ldaImm 0x01, 1), some (.ldaAbs 0x1234, 0), some (.jsr 0x1234, 0)] := by decide

theorem witness_StepFetchesThroughTheBus :
    let b0 := fun (bytes : List Byte) => fetch { runningExternal bytes with skipPoll := false }
    let b1 := fun (bytes : List Byte) => fetch (b0 bytes).state
    let b2 := fun (bytes : List Byte) => fetch (b1 bytes).state
    decode [(b0 [0xEA]).value] = .ok (.nop, []) ∧
      decode [(b0 [0xA9, 0x01]).value, (b1 [0xA9, 0x01]).value] = .ok (.ldaImm 0x01, []) ∧
      decode [(b0 [0xAD, 0x34, 0x12]).value, (b1 [0xAD, 0x34, 0x12]).value, (b2 [0xAD, 0x34, 0x12]).value] =
        .ok (.ldaAbs 0x1234, []) ∧
      (b0 [0x20, 0x34, 0x12]).value = 0x20 := ⟨rfl, rfl, rfl, rfl⟩

theorem witness_CycleCounterIsNeverRead : ∃ t, exec (.ldaAbs 0x2000) (running []) = .next t ∧ t.cycles = 4 := ⟨_, rfl, rfl⟩

/-- The frames of every instruction ask only that it answers a next state. -/
theorem witness_HiddenStateFrame :
    (isOne .brk [.BRK] ∧ ∃ t, exec .brk (running []) = .next t ∧ t.skipPoll = true) ∧
      ¬ isOne .nop [.BRK] ∧ ∃ t, exec .nop (running []) = .next t ∧ t.skipPoll = false :=
  ⟨⟨by decide, _, rfl, rfl⟩, by decide, _, rfl, rfl⟩

theorem witness_DecimalFlagIsInert :
    ¬ isOne (.adcImm 0x01) [.CLD, .SED, .PLP, .RTI, .PHP, .BRK] ∧ ∃ t, exec (.adcImm 0x01) (running []) = .next t :=
  ⟨by decide, _, rfl⟩

/-- An instruction that is in none of the lists of the frames, and one that is in the list of Z and N. -/
theorem witness_register_and_flag_frames :
    (∃ t, exec (.staAbs 0x2000) (running []) = .next t) ∧
      ¬ isOne (.staAbs 0x2000) [.ADC, .SBC, .AND, .ORA, .EOR, .LDA, .TXA, .TYA, .PLA] ∧
      ¬ ((Instr.staAbs 0x2000).descriptor.mode = .acc ∧ isOne (.staAbs 0x2000) [.ASL, .LSR, .ROL, .ROR]) ∧
      ¬ isOne (.staAbs 0x2000) [.LDX, .TAX, .TSX, .INX, .DEX] ∧ ¬ isOne (.staAbs 0x2000) [.LDY, .TAY, .INY, .DEY] ∧
      ¬ isOne (.staAbs 0x2000) [.PHA, .PHP, .PLA, .PLP, .JSR, .RTS, .BRK, .RTI, .TXS] ∧
      ¬ isOne (.staAbs 0x2000) [.ADC, .SBC, .CMP, .CPX, .CPY, .ASL, .LSR, .ROL, .ROR, .CLC, .SEC, .PLP, .RTI] ∧
      ¬ isOne (.staAbs 0x2000) [.ADC, .SBC, .BIT, .CLV, .PLP, .RTI] ∧
      ¬ isOne (.staAbs 0x2000) [.SEI, .CLI, .BRK, .PLP, .RTI] ∧ ¬ isOne (.staAbs 0x2000) [.SED, .CLD, .PLP, .RTI] ∧
      isOne (.staAbs 0x2000) [.STA, .NOP] := ⟨⟨_, rfl⟩, by decide⟩

theorem witness_MemoryFrameOfNonStoringInstructions :
    storesAtAddress (.cmpAbs 0x2000) = false ∧ pushes (.cmpAbs 0x2000) = false ∧ storesAtAddress .aslAcc = false ∧
      ∃ t, exec (.cmpAbs 0x2000) (running []) = .next t := ⟨by decide, by decide, by decide, _, rfl⟩

/-- A store in both regions of an external machine, and a read-modify-write. -/
theorem witness_StoringInstructionsChangeOneByte :
    storesAtAddress (.staAbs 0x2000) = true ∧ addrFormOf (.staAbs 0x2000) = some (.abs 0x2000) ∧
      (runningExternal []).hostAnswers (resolve (.abs 0x2000) (runningExternal [])).ea = true ∧
      (runningExternal []).hostAnswers (resolve (.abs 0x1FFF) (runningExternal [])).ea = false ∧
      (∃ t, exec (.staAbs 0x2000) (runningExternal []) = .next t) ∧
      storesAtAddress (.incZp 0xFF) = true ∧ addrFormOf (.incZp 0xFF) = some (.zp 0xFF) ∧
      ∃ t, exec (.incZp 0xFF) (running []) = .next t :=
  ⟨by decide, rfl, by decide, by decide, ⟨_, rfl⟩, by decide, rfl, _, rfl⟩

/-- One, two and three pushed bytes, SP wrapping below 0x00. -/
theorem witness_PushingInstructionsChangeStackBytesOnly :
    let s := Start.state { bytes := [], sp := 0x00 }
    (isOne .pha [.PHA, .PHP] ∧ ∃ t, exec .pha s = .next t ∧ t.sp = 0xFF) ∧
      (isOne (.jsr 0x1234) [.JSR] ∧ ∃ t, exec (.jsr 0x1234) s = .next t ∧ t.sp = 0xFE) ∧
      (isOne .brk [.BRK] ∧ ∃ t, exec .brk s = .next t ∧ t.sp = 0xFD) :=
  ⟨⟨by decide, _, rfl, rfl⟩, ⟨by decide, _, rfl, rfl⟩, by decide, _, rfl, rfl⟩

theorem witness_ResetSetsDefaults :
    (running []).config.resetEntry = .fixed 0xC000 ∧ State.reset.config.resetEntry = .vector := by decide

/-- A state that is not the reset state meets the invariant and steps. -/
theorem witness_EveryStepKeepsInvariant :
    (runningExternal [0x85, 0x10]).Inv ∧ ∃ t, step (runningExternal [0x85, 0x10]) = .next t :=
  ⟨⟨by decide, by decide, by decide⟩, _, rfl⟩

/-- Images at both ends of the store, and a state to which every event can happen. -/
theorem witness_EverySessionKeepsInvariant :
    (runningExternal [0x85, 0x10]).Inv ∧ stopped.Inv ∧ Memory.wf [(0x0000, 0x01), (0xFFFF, 0xFF)] = true ∧ Memory.wf [(0x0000, 0x00)] = false ∧
      Memory.wf [(0x10000, 0x01)] = false :=
  ⟨⟨by decide, by decide, by decide⟩, ⟨by decide, by decide, by decide⟩, by decide⟩

end Sys2Proof.Tests
end

section
/-! PROOFS of family 00_scope.md: every instruction completes, and in how many cycles. The one idea is that every arm of
`exec` ends in a single `retire` of a state whose cycle counter is still the one of before (`exec_retires`); the bounds
are then a fact about the rows of the opcode table (`descriptor_cyclesInRange`). -/

namespace Sys2Proof.Machine

/-! ### The stack and control operations do not count cycles (70_reset_and_hazards.md R159) -/

@[simp] theorem push_cycles (v : Byte) (s : State) : (push v s).cycles = s.cycles := by simp [push]

@[simp] theorem pushWord_cycles (w : Word) (s : State) : (pushWord w s).cycles = s.cycles := by simp [pushWord]

@[simp] theorem fetch_cycles (s : State) : (fetch s).state.cycles = s.cycles := by simp [fetch]

theorem pullA_cycles (s : State) : (pullA s).cycles = s.cycles := by simp [pullA, pull_eq]

theorem pullP_cycles (s : State) : (pullP s).cycles = s.cycles := by simp [pullP, pull_eq]

theorem jumpIndirect_cycles (ptr : Word) (s : State) : (jumpIndirect ptr s).cycles = s.cycles := by
  simp [jumpIndirect, resolveIndirect]

theorem jumpSubroutine_cycles (target : Word) (s : State) : (jumpSubroutine target s).cycles = s.cycles := by
  simp [jumpSubroutine]

theorem returnFromSubroutine_cycles (s : State) : (returnFromSubroutine s).cycles = s.cycles := by
  simp [returnFromSubroutine, pullWord_eq]

theorem returnFromHandler_cycles (s : State) : (returnFromHandler s).cycles = s.cycles := by
  simp [returnFromHandler_eq]

theorem softwareBreak_cycles (s : State) : (softwareBreak s).cycles = s.cycles := by simp [softwareBreak]

/-! ### Every instruction ends in one `retire` -/

/-- The most branch cycles a row admits (45_control.md R116). -/
def maxBranchCycles (d : Descriptor) : Nat := if d.branchCycles then 2 else 0

/-- The outcome is the end of an instruction of row `d`, whose own rule counted no cycle. -/
def Retires (d : Descriptor) (s : State) (o : Host.Outcome State Fault Refusal) : Prop :=
  ∃ crossed extra u, o = .next (retire d s.p.i crossed extra u) ∧ u.cycles = s.cycles ∧ extra ≤ maxBranchCycles d

theorem readClass_retires {d : Descriptor} {f : ReadForm} {act : Byte → State → State} {s : State}
    (h : ∀ m t, (act m t).cycles = t.cycles) : Retires d s (readClass d f act s) :=
  ⟨_, 0, _, rfl, by simp [h], Nat.zero_le _⟩

theorem storeClass_retires {d : Descriptor} {f : AddrForm} {v : Byte} {s : State} :
    Retires d s (storeClass d f v s) :=
  ⟨_, 0, _, storeClass_eq d f v s, by simp, Nat.zero_le _⟩

theorem modifyClass_retires {d : Descriptor} {f : ModifyForm} {op : Byte → Status → Modified} {s : State} :
    Retires d s (modifyClass d f op s) := by
  cases f with
  | acc => exact ⟨_, 0, _, rfl, rfl, Nat.zero_le _⟩
  | mem form => exact ⟨_, 0, _, modifyClass_mem d form op s, by simp, Nat.zero_le _⟩

theorem impliedClass_retires {d : Descriptor} {act : State → State} {s : State} (h : (act s).cycles = s.cycles) :
    Retires d s (impliedClass d act s) :=
  ⟨_, 0, _, rfl, h, Nat.zero_le _⟩

/-- A taken branch adds 1 or 2 cycles, one not taken none. -/
theorem branch_retires {d : Descriptor} {disp : Byte} {cond : Bool} {s : State} (h : d.branchCycles = true) :
    Retires d s (branch d disp cond s) := by
  have most : maxBranchCycles d = 2 := if_pos h
  cases cond with
  | false => exact ⟨_, 0, _, rfl, rfl, Nat.zero_le _⟩
  | true => exact ⟨_, _, _, rfl, rfl, by rw [most]; split <;> omega⟩

theorem exec_retires (i : Instr) (s : State) : Retires i.descriptor s (exec i s) := by
  match i with
  | .ldaImm _ | .ldaZp _ | .ldaZpx _ | .ldaAbs _ | .ldaAbsx _ | .ldaAbsy _ | .ldaIndx _ | .ldaIndy _
  | .ldxImm _ | .ldxZp _ | .ldxZpy _ | .ldxAbs _ | .ldxAbsy _
  | .ldyImm _ | .ldyZp _ | .ldyZpx _ | .ldyAbs _ | .ldyAbsx _
  | .adcImm _ | .adcZp _ | .adcZpx _ | .adcAbs _ | .adcAbsx _ | .adcAbsy _ | .adcIndx _ | .adcIndy _
  | .sbcImm _ | .sbcZp _ | .sbcZpx _ | .sbcAbs _ | .sbcAbsx _ | .sbcAbsy _ | .sbcIndx _ | .sbcIndy _
  | .andImm _ | .andZp _ | .andZpx _ | .andAbs _ | .andAbsx _ | .andAbsy _ | .andIndx _ | .andIndy _
  | .oraImm _ | .oraZp _ | .oraZpx _ | .oraAbs _ | .oraAbsx _ | .oraAbsy _ | .oraIndx _ | .oraIndy _
  | .eorImm _ | .eorZp _ | .eorZpx _ | .eorAbs _ | .eorAbsx _ | .eorAbsy _ | .eorIndx _ | .eorIndy _
  | .cmpImm _ | .cmpZp _ | .cmpZpx _ | .cmpAbs _ | .cmpAbsx _ | .cmpAbsy _ | .cmpIndx _ | .cmpIndy _
  | .cpxImm _ | .cpxZp _ | .cpxAbs _ | .cpyImm _ | .cpyZp _ | .cpyAbs _ | .bitZp _ | .bitAbs _ =>
    exact readClass_retires fun _ _ => rfl
  | .staZp _ | .staZpx _ | .staAbs _ | .staAbsx _ | .staAbsy _ | .staIndx _ | .staIndy _
  | .stxZp _ | .stxZpy _ | .stxAbs _ | .styZp _ | .styZpx _ | .styAbs _ => exact storeClass_retires
  | .incZp _ | .incZpx _ | .incAbs _ | .incAbsx _ | .decZp _ | .decZpx _ | .decAbs _ | .decAbsx _
  | .aslAcc | .aslZp _ | .aslZpx _ | .aslAbs _ | .aslAbsx _ | .lsrAcc | .lsrZp _ | .lsrZpx _ | .lsrAbs _ | .lsrAbsx _
  | .rolAcc | .rolZp _ | .rolZpx _ | .rolAbs _ | .rolAbsx _ | .rorAcc | .rorZp _ | .rorZpx _ | .rorAbs _ | .rorAbsx _ =>
    rw [exec]; exact modifyClass_retires
  | .bcc _ | .bcs _ | .beq _ | .bmi _ | .bne _ | .bpl _ | .bvc _ | .bvs _ => exact branch_retires rfl
  | .tax | .tay | .txa | .tya | .tsx | .txs | .inx | .iny | .dex | .dey
  | .clc | .cld | .cli | .clv | .sec | .sed | .sei | .nop | .jmpAbs _ =>
    rw [exec]; exact impliedClass_retires rfl
  | .pha | .php => exact impliedClass_retires (push_cycles _ s)
  | .pla => exact impliedClass_retires (pullA_cycles s)
  | .plp => exact impliedClass_retires (pullP_cycles s)
  | .jmpInd ptr => exact impliedClass_retires (jumpIndirect_cycles ptr s)
  | .jsr target => exact impliedClass_retires (jumpSubroutine_cycles target s)
  | .rts => exact impliedClass_retires (returnFromSubroutine_cycles s)
  | .brk => exact impliedClass_retires (softwareBreak_cycles s)
  | .rti => exact impliedClass_retires (returnFromHandler_cycles s)

/-! ### The cycles a row admits (70_reset_and_hazards.md R160) -/

/-- The most cycles an instruction of the row adds to its base: one for a crossed page, two for a taken branch. -/
def maxExtraCycles (d : Descriptor) : Nat := (if d.pageCrossCycle then 1 else 0) + maxBranchCycles d

/-- The row costs at least 2 cycles, at most 7 with everything added, and what is added is at most 2. -/
def cyclesInRange (d : Descriptor) : Bool :=
  decide (2 ≤ d.baseCycles ∧ maxExtraCycles d ≤ 2 ∧ d.baseCycles + maxExtraCycles d ≤ 7)

theorem descriptor_cyclesInRange (i : Instr) : cyclesInRange i.descriptor = true := by
  cases i <;> rfl

/-- What `retire` counts lies between the row's base cycles and those with all that the row admits added. -/
theorem retire_cycles_bounds {d : Descriptor} {iBefore crossed : Bool} {extra : Nat} {u : State}
    (h : extra ≤ maxBranchCycles d) :
    u.cycles + d.baseCycles ≤ (retire d iBefore crossed extra u).cycles ∧
      (retire d iBefore crossed extra u).cycles ≤ u.cycles + d.baseCycles + maxExtraCycles d := by
  have page : (if d.pageCrossCycle && crossed then 1 else 0) ≤ if d.pageCrossCycle then 1 else 0 := by
    cases d.pageCrossCycle <;> cases crossed <;> decide
  rw [retire_cycles, maxExtraCycles]
  omega

/-- Settles O47: every instruction retires, and its row bounds what `retire` counts. -/
theorem everyInstructionCompletes : Obligations.EveryInstructionCompletes := by
  intro i s
  obtain ⟨crossed, extra, u, hexec, hu, hextra⟩ := exec_retires i s
  obtain ⟨hbase, hmost, hall⟩ := of_decide_eq_true (descriptor_cyclesInRange i)
  obtain ⟨hlow, hhigh⟩ := retire_cycles_bounds (iBefore := s.p.i) (crossed := crossed) (u := u) hextra
  exact ⟨_, hexec, by omega, by omega, by omega, by omega⟩

end Sys2Proof.Machine
end

section
/-! PROOFS of family 10_state.md: what each instruction leaves alone, what none of them reads, and what every step keeps.
The one idea is that an instruction is the rule of its mnemonic (`ruleOf`) run by one of five classes (`run_ofInstr`), so
that a fact about `exec` is a fact about the classes, shown once (`exec_within`, `exec_disguise`), and one about the 56
rules. -/

namespace Sys2Proof.Machine
open Claims

/-! ### Every instruction is its mnemonic's rule -/

/-- The shape of an instruction's rule, without its addressing mode. A shift of A is an implied rule. -/
inductive Rule where
  | read (act : Byte → State → State)
  | store (value : State → Byte)
  | modify (op : Byte → Status → Modified)
  | implied (act : State → State)
  | branch (cond : Status → Bool)

/-- A read-modify-write rule applied to A (40_addressing.md R58). -/
def modifyA (op : Byte → Status → Modified) (s : State) : State :=
  { s with a := (op s.a s.p).value, p := (op s.a s.p).status }

/-- The rule of a shift or rotate (43_shift_rotate.md): on A or on memory, by its mode. -/
def shiftRule (mode : Mode) (op : Byte → Status → Modified) : Rule :=
  if mode = .acc then .implied (modifyA op) else .modify op

/-- JMP's rule (45_control.md R113), by its mode. -/
def jump (mode : Mode) (w : Word) (s : State) : State :=
  if mode = .ind then jumpIndirect w s else { s with pc := w }

/-- The operand byte, where there is one. -/
def operandByte (i : Instr) : Byte :=
  match i.operandBytes with
  | .one b => b
  | _ => 0

/-- The operand word, where there is one. -/
def operandWord (i : Instr) : Word :=
  match i.operandBytes with
  | .two w => w
  | _ => 0

/-- The rule of each mnemonic, given the row's mode and the operand word. -/
def ruleOf (m : Mnemonic) (mode : Mode) (w : Word) : Rule :=
  match m with
  | .LDA => .read loadA
  | .LDX => .read loadX
  | .LDY => .read loadY
  | .ADC => .read adcA
  | .SBC => .read sbcA
  | .AND => .read andA
  | .ORA => .read oraA
  | .EOR => .read eorA
  | .CMP => .read compareA
  | .CPX => .read compareX
  | .CPY => .read compareY
  | .BIT => .read bitA
  | .STA => .store State.a
  | .STX => .store State.x
  | .STY => .store State.y
  | .INC => .modify increment
  | .DEC => .modify decrement
  | .ASL => shiftRule mode shiftLeft
  | .LSR => shiftRule mode shiftRight
  | .ROL => shiftRule mode rotateLeft
  | .ROR => shiftRule mode rotateRight
  | .TAX => .implied fun s => s.setX s.a
  | .TAY => .implied fun s => s.setY s.a
  | .TXA => .implied fun s => s.setA s.x
  | .TYA => .implied fun s => s.setA s.y
  | .TSX => .implied fun s => s.setX s.sp
  | .TXS => .implied fun s => { s with sp := s.x }
  | .INX => .implied fun s => s.setX (s.x + 1)
  | .INY => .implied fun s => s.setY (s.y + 1)
  | .DEX => .implied fun s => s.setX (s.x - 1)
  | .DEY => .implied fun s => s.setY (s.y - 1)
  | .PHA => .implied fun s => push s.a s
  | .PHP => .implied fun s => push s.p.pushedByInstr s
  | .PLA => .implied pullA
  | .PLP => .implied pullP
  | .JMP => .implied (jump mode w)
  | .JSR => .implied (jumpSubroutine w)
  | .RTS => .implied returnFromSubroutine
  | .BCC => .branch fun p => !p.c
  | .BCS => .branch Status.c
  | .BEQ => .branch Status.z
  | .BMI => .branch Status.n
  | .BNE => .branch fun p => !p.z
  | .BPL => .branch fun p => !p.n
  | .BVC => .branch fun p => !p.v
  | .BVS => .branch Status.v
  | .CLC => .implied fun s => { s with p := { s.p with c := false } }
  | .CLD => .implied fun s => { s with p := { s.p with d := false } }
  | .CLI => .implied fun s => { s with p := { s.p with i := false } }
  | .CLV => .implied fun s => { s with p := { s.p with v := false } }
  | .SEC => .implied fun s => { s with p := { s.p with c := true } }
  | .SED => .implied fun s => { s with p := { s.p with d := true } }
  | .SEI => .implied fun s => { s with p := { s.p with i := true } }
  | .NOP => .implied id
  | .BRK => .implied softwareBreak
  | .RTI => .implied returnFromHandler

/-- The rule of an instruction. -/
def Rule.ofInstr (i : Instr) : Rule := ruleOf i.descriptor.mnemonic i.descriptor.mode (operandWord i)

/-- A rule run with the row and the operand bytes of `i`; `none` where the mode does not fit the rule. -/
def Rule.run (i : Instr) (s : State) : Rule → Option (Host.Outcome State Fault Refusal)
  | .read act => (readFormOf i).map fun f => readClass i.descriptor f act s
  | .store value => (addrFormOf i).map fun f => storeClass i.descriptor f (value s) s
  | .modify op => (addrFormOf i).map fun f => modifyClass i.descriptor (.mem f) op s
  | .implied act => some (impliedClass i.descriptor act s)
  | .branch cond => some (Machine.branch i.descriptor (operandByte i) (cond s.p) s)

/-- Every arm of `exec` is the rule of its mnemonic in the mode of its row. -/
theorem run_ofInstr (i : Instr) (s : State) : (Rule.ofInstr i).run i s = some (exec i s) := by
  cases i <;> rfl

/-! ### What every instruction does besides its rule -/

/-- A relation from the state before to the state after that every access to the bus, every move of PC and the end of
every instruction keep: a frame, or an invariant of the store and the host's deliveries. -/
structure Ambient (R : State → State → Prop) : Prop where
  trans : ∀ {s t u}, R s t → R t u → R s u
  read : ∀ a s, R s (memRead a s).state
  write : ∀ a v s, R s (memWrite a v s)
  pc : ∀ s w, R s { s with pc := w }
  retire : ∀ d iBefore crossed extra s, R s (retire d iBefore crossed extra s)

/-- What the rule does to the state, besides what its class does, stays in `R`. -/
def Rule.Within (R : State → State → Prop) : Rule → Prop
  | .read act => ∀ m s, R s (act m s)
  | .store _ => True
  | .modify op => ∀ m s, R s { s with p := (op m s.p).status }
  | .implied act => ∀ s, R s (act s)
  | .branch _ => True

section
variable {R : State → State → Prop} (hR : Ambient R)
include hR

/-- PC set to what it was. -/
theorem Ambient.refl (s : State) : R s s := hR.pc s s.pc

theorem Ambient.readOperand (f : ReadForm) (s : State) : R s (readOperand f s).state := by
  cases f with
  | imm v => exact hR.refl s
  | mem form => rw [readOperand_memory]; exact hR.read _ s

theorem Ambient.readWord (lo hi : Word) (s : State) : R s (readWord lo hi s).state :=
  hR.trans (hR.read lo s) (hR.read hi _)

theorem Ambient.fetch (s : State) : R s (fetch s).state :=
  hR.trans (hR.read s.pc s) (hR.pc ..)

theorem Ambient.fetchOperands (opcode : Byte) (s : State) : R s (fetchOperands opcode s).state := by
  unfold Machine.fetchOperands
  split
  · exact hR.fetch s
  · split
    · exact hR.fetch s
    · exact hR.trans (hR.fetch s) (hR.fetch _)
  · exact hR.refl s

theorem Ambient.fetchInstr {s f : State} {i : Instr} (h : fetchInstr s = .instr i f) : R s f := by
  unfold Machine.fetchInstr at h
  simp only at h
  split at h
  · cases h
    exact hR.trans (hR.fetch s) (hR.fetchOperands _ _)
  · cases h

theorem Ambient.jump (mode : Mode) (w : Word) (s : State) : R s (jump mode w s) := by
  unfold Machine.jump
  split
  · exact hR.trans (hR.readWord ..) (hR.pc ..)
  · exact hR.pc s w

theorem readClass_within {d : Descriptor} {f : ReadForm} {act : Byte → State → State} {s t : State}
    (h : (Rule.read act).Within R) (hrun : readClass d f act s = .next t) : R s t := by
  cases hrun
  exact hR.trans (hR.trans (hR.readOperand f s) (h _ _)) (hR.retire ..)

theorem storeClass_within {d : Descriptor} {f : AddrForm} {v : Byte} {s t : State}
    (hrun : storeClass d f v s = .next t) : R s t := by
  rw [storeClass_eq] at hrun
  cases hrun
  exact hR.trans (hR.write ..) (hR.retire ..)

theorem modifyClass_within {d : Descriptor} {f : AddrForm} {op : Byte → Status → Modified} {s t : State}
    (h : (Rule.modify op).Within R) (hrun : modifyClass d (.mem f) op s = .next t) : R s t := by
  rw [modifyClass_mem] at hrun
  cases hrun
  generalize (resolve f s).ea = ea
  have hflags := h (memRead ea s).value (memWrite ea (op (memRead ea s).value s.p).value (memRead ea s).state)
  rw [memWrite_p, memRead_p] at hflags
  exact hR.trans (hR.trans (hR.trans (hR.read ea s) (hR.write ..)) hflags) (hR.retire ..)

theorem branch_within {d : Descriptor} {disp : Byte} {cond : Bool} {s t : State}
    (hrun : branch d disp cond s = .next t) : R s t := by
  cases cond with
  | false => cases hrun; exact hR.retire ..
  | true => cases hrun; exact hR.trans (hR.pc ..) (hR.retire ..)

/-- An instruction stays in `R` where its rule does. -/
theorem exec_within {i : Instr} {s t : State} (h : (Rule.ofInstr i).Within R) (hexec : exec i s = .next t) :
    R s t := by
  have hrun := run_ofInstr i s
  rw [hexec] at hrun
  generalize Rule.ofInstr i = r at h hrun
  cases r with
  | read act =>
    obtain ⟨f, -, hf⟩ := Option.map_eq_some_iff.mp hrun
    exact readClass_within hR h hf
  | store value =>
    obtain ⟨f, -, hf⟩ := Option.map_eq_some_iff.mp hrun
    exact storeClass_within hR hf
  | modify op =>
    obtain ⟨f, -, hf⟩ := Option.map_eq_some_iff.mp hrun
    exact modifyClass_within hR h hf
  | implied act =>
    cases hrun
    exact hR.trans (h s) (hR.retire ..)
  | branch cond => exact branch_within hR (Option.some.inj hrun)

end

/-! ### Frames (10_state.md R12 to R15, R19 to R23, R26) -/

/-- The registers, the flags with storage, and the hidden state, input and parameters that an instruction can only keep. -/
inductive StateField where
  | a | x | y | sp | c | z | i | d | v | n | skipPoll | nmiPending | halted | irq | config

/-- The field is the same in both states. -/
def StateField.Same : StateField → State → State → Prop
  | .a, s, t => t.a = s.a
  | .x, s, t => t.x = s.x
  | .y, s, t => t.y = s.y
  | .sp, s, t => t.sp = s.sp
  | .c, s, t => t.p.c = s.p.c
  | .z, s, t => t.p.z = s.p.z
  | .i, s, t => t.p.i = s.p.i
  | .d, s, t => t.p.d = s.p.d
  | .v, s, t => t.p.v = s.p.v
  | .n, s, t => t.p.n = s.p.n
  | .skipPoll, s, t => t.skipPoll = s.skipPoll
  | .nmiPending, s, t => t.nmiPending = s.nmiPending
  | .halted, s, t => t.halted = s.halted
  | .irq, s, t => t.irq = s.irq
  | .config, s, t => t.config = s.config

/-- The writers of Z and N (R21): every result that goes through `SetZN`, BIT, and P pulled from the stack. -/
def zeroNegativeWriters : List Mnemonic :=
  [.ADC, .SBC, .AND, .ORA, .EOR, .CMP, .CPX, .CPY, .BIT, .INC, .DEC, .INX, .INY, .DEX, .DEY, .ASL, .LSR, .ROL, .ROR,
   .LDA, .LDX, .LDY, .TAX, .TAY, .TXA, .TYA, .TSX, .PLA, .PLP, .RTI]

/-- The spec's list of writers of a field; A has the shifts in accumulator mode besides (R12). -/
def StateField.writers (mode : Mode) : StateField → List Mnemonic
  | .a => [.ADC, .SBC, .AND, .ORA, .EOR, .LDA, .TXA, .TYA, .PLA] ++ if mode = .acc then [.ASL, .LSR, .ROL, .ROR] else []
  | .x => [.LDX, .TAX, .TSX, .INX, .DEX]
  | .y => [.LDY, .TAY, .INY, .DEY]
  | .sp => [.PHA, .PHP, .PLA, .PLP, .JSR, .RTS, .BRK, .RTI, .TXS]
  | .c => [.ADC, .SBC, .CMP, .CPX, .CPY, .ASL, .LSR, .ROL, .ROR, .CLC, .SEC, .PLP, .RTI]
  | .v => [.ADC, .SBC, .BIT, .CLV, .PLP, .RTI]
  | .i => [.SEI, .CLI, .BRK, .PLP, .RTI]
  | .d => [.SED, .CLD, .PLP, .RTI]
  | .z | .n => zeroNegativeWriters
  | .skipPoll => [.BRK]
  | .nmiPending | .halted | .irq | .config => []

/-- A projection is kept by the bus, the fetches and the end of an instruction when it does not look at what they write. -/
theorem ambient_of_projection {α : Type} {π : State → α}
    (h : ∀ s pc cycles iPoll mem reads log, π { s with
      pc := pc, cycles := cycles, iPoll := iPoll, mem := mem, extReads := reads, extLog := log } = π s) :
    Ambient fun s t => π t = π s where
  trans hst htu := htu.trans hst
  read a s := by rw [memRead_eq]; split <;> exact h s ..
  write a v s := by rw [memWrite_eq]; split <;> exact h s ..
  pc s w := h s w ..
  retire _ _ _ _ s := h s ..

theorem StateField.ambient_same (f : StateField) : Ambient f.Same := by
  cases f <;> exact ambient_of_projection fun _ _ _ _ _ _ _ => rfl

theorem shiftRule_within {R : State → State → Prop} {mode : Mode} {op : Byte → Status → Modified}
    (hA : mode = .acc → ∀ s, R s (modifyA op s)) (hM : ∀ m s, R s { s with p := (op m s.p).status }) :
    (shiftRule mode op).Within R := by
  unfold shiftRule
  split
  · exact hA ‹_›
  · exact hM

/-- The frame of the 56 rules: a field in whose list of writers the mnemonic does not stand is one that its rule leaves. -/
theorem ruleOf_keeps {f : StateField} {m : Mnemonic} {mode : Mode} (h : m ∉ f.writers mode) (w : Word) :
    (ruleOf m mode w).Within f.Same := by
  cases m
  case STA | STX | STY | BCC | BCS | BEQ | BMI | BNE | BPL | BVC | BVS => trivial
  case LDA | LDX | LDY | ADC | SBC | AND | ORA | EOR | CMP | CPX | CPY | BIT | INC | DEC =>
    intro v s
    cases f <;> simp [StateField.writers, zeroNegativeWriters] at h <;> rfl
  case ASL | LSR | ROL | ROR =>
    apply shiftRule_within
    · rintro rfl s
      cases f <;> simp [StateField.writers, zeroNegativeWriters] at h <;> rfl
    · intro v s
      cases f <;> simp [StateField.writers, zeroNegativeWriters] at h <;> rfl
  case PHA | PHP | PLA | PLP | JSR | RTS | BRK | RTI =>
    intro s
    cases f <;> simp [StateField.writers, zeroNegativeWriters] at h <;>
      simp [StateField.Same, pullA, pullP, jumpSubroutine, returnFromSubroutine, softwareBreak, returnFromHandler_eq,
        push_eq, pull_eq, pushWord_eq, pullWord_eq, fetch]
  case JMP => exact f.ambient_same.jump mode w
  all_goals
    intro s
    cases f <;> simp [StateField.writers, zeroNegativeWriters] at h <;> rfl

/-- An instruction that is not in the list of writers of a field leaves it. -/
theorem exec_keeps {f : StateField} {i : Instr} {s t : State} (hexec : exec i s = .next t)
    (h : i.descriptor.mnemonic ∉ f.writers i.descriptor.mode) : f.Same s t :=
  exec_within f.ambient_same (ruleOf_keeps h _) hexec

/-- The 26 mnemonics that leave Z and N. -/
theorem not_zeroNegativeWriter {m : Mnemonic}
    (h : m ∈ [.STA, .STX, .STY, .TXS, .PHA, .PHP, .JMP, .JSR, .RTS, .BCC, .BCS, .BEQ, .BMI, .BNE, .BPL, .BVC, .BVS,
      .NOP, .CLC, .CLD, .CLI, .CLV, .SEC, .SED, .SEI, .BRK]) : m ∉ zeroNegativeWriters := by
  revert m
  decide

/-- Settles O50: A, X, Y and SP are fields with the spec's writers. -/
theorem registerFrames : Obligations.RegisterFrames := by
  intro i s t hexec
  refine ⟨fun ha hshift => exec_keeps (f := .a) hexec ?_, exec_keeps (f := .x) hexec, exec_keeps (f := .y) hexec,
    exec_keeps (f := .sp) hexec⟩
  rw [StateField.writers, List.mem_append, not_or]
  refine ⟨ha, ?_⟩
  split
  · exact fun hm => hshift ⟨‹_›, hm⟩
  · exact List.not_mem_nil

/-- Settles O51: the six flags are fields with the spec's writers. -/
theorem flagFrames : Obligations.FlagFrames := by
  intro i s t hexec
  refine ⟨exec_keeps (f := .c) hexec, exec_keeps (f := .v) hexec, exec_keeps (f := .i) hexec,
    exec_keeps (f := .d) hexec, fun hm => ?_⟩
  have hzn := not_zeroNegativeWriter hm
  exact ⟨exec_keeps (f := .z) hexec hzn, exec_keeps (f := .n) hexec hzn⟩

/-- All a BRK does is its rule and the end of an instruction. -/
theorem exec_BRK {i : Instr} {s t : State} (hm : i.descriptor.mnemonic = .BRK) (hexec : exec i s = .next t) :
    t = retire i.descriptor s.p.i false 0 (softwareBreak s) := by
  have hrun := run_ofInstr i s
  rw [Rule.ofInstr, hm, hexec] at hrun
  cases hrun
  rfl

/-- Settles O52: the hidden state has no writer, but for the skip bit that BRK sets. -/
theorem hiddenStateFrame : Obligations.HiddenStateFrame := by
  intro i s t hexec
  have nowhere : i.descriptor.mnemonic ∉ [] := List.not_mem_nil
  refine ⟨exec_keeps (f := .nmiPending) hexec nowhere, ?_, exec_keeps (f := .halted) hexec nowhere,
    exec_keeps (f := .irq) hexec nowhere, exec_keeps (f := .config) hexec nowhere⟩
  split
  · rw [exec_BRK (List.mem_singleton.mp ‹_›) hexec]
    simp [softwareBreak]
  · exact exec_keeps (f := .skipPoll) hexec ‹_›

/-! ### P as a byte (10_state.md R17, R18) -/

theorem Status.toByte_layout (p : Status) :
    p.toByte.getLsbD 0 = p.c ∧ p.toByte.getLsbD 1 = p.z ∧ p.toByte.getLsbD 2 = p.i ∧ p.toByte.getLsbD 3 = p.d ∧
      p.toByte.getLsbD 4 = false ∧ p.toByte.getLsbD 5 = true ∧ p.toByte.getLsbD 6 = p.v ∧ p.toByte.getLsbD 7 = p.n := by
  obtain ⟨c, z, i, d, v, n⟩ := p
  revert c z i d v n
  decide

/-- Settles O37: the 64 values of the stored flags. -/
theorem statusByteLayout : Obligations.StatusByteLayout := fun s => s.p.toByte_layout

/-! ### The cycle counter and D are not read (10_state.md R22, R24) -/

/-- P with another D. -/
def Status.mapD (fd : Bool → Bool) (p : Status) : Status := { p with d := fd p.d }

/-- The state with `k` cycles more and another D. -/
def State.disguise (k : Nat) (fd : Bool → Bool) (s : State) : State :=
  { s with cycles := s.cycles + k, p := s.p.mapD fd }

theorem State.disguise_id (k : Nat) (s : State) : s.disguise k id = { s with cycles := s.cycles + k } := rfl

section
variable (k : Nat) (fd : Bool → Bool) (s : State)

theorem memRead_disguise (a : Word) :
    memRead a (s.disguise k fd) = ⟨(memRead a s).value, (memRead a s).state.disguise k fd⟩ := by
  have hhost : (s.disguise k fd).hostAnswers a = s.hostAnswers a := rfl
  rw [memRead_eq, memRead_eq, hhost]
  split <;> rfl

theorem memWrite_disguise (a : Word) (v : Byte) :
    memWrite a v (s.disguise k fd) = (memWrite a v s).disguise k fd := by
  have hhost : (s.disguise k fd).hostAnswers a = s.hostAnswers a := rfl
  rw [memWrite_eq, memWrite_eq, hhost]
  split <;> rfl

theorem readWord_disguise (lo hi : Word) :
    readWord lo hi (s.disguise k fd) = ⟨(readWord lo hi s).value, (readWord lo hi s).state.disguise k fd⟩ := by
  simp only [readWord, memRead_disguise]

theorem resolve_disguise (f : AddrForm) :
    resolve f (s.disguise k fd) = ⟨(resolve f s).ea, (resolve f s).crossed, s.disguise k fd⟩ := by
  cases f <;> simp only [resolve, indexed, zeroPagePointer_eq] <;> rfl

theorem readOperand_disguise (f : ReadForm) :
    readOperand f (s.disguise k fd) =
      ⟨(readOperand f s).value, (readOperand f s).crossed, (readOperand f s).state.disguise k fd⟩ := by
  cases f with
  | imm v => rfl
  | mem form => simp only [readOperand, resolve_disguise, memRead_disguise, resolve_state]

theorem push_disguise (v : Byte) : push v (s.disguise k fd) = (push v s).disguise k fd := by
  rw [push_eq, push_eq]; rfl

theorem pushWord_disguise (w : Word) : pushWord w (s.disguise k fd) = (pushWord w s).disguise k fd := by
  rw [pushWord_eq, pushWord_eq]; rfl

theorem pull_disguise : pull (s.disguise k fd) = ⟨(pull s).value, (pull s).state.disguise k fd⟩ := by
  rw [pull_eq, pull_eq]; rfl

theorem pullWord_disguise : pullWord (s.disguise k fd) = ⟨(pullWord s).value, (pullWord s).state.disguise k fd⟩ := by
  rw [pullWord_eq, pullWord_eq]; rfl

theorem fetch_disguise : fetch (s.disguise k fd) = ⟨(fetch s).value, (fetch s).state.disguise k fd⟩ := by
  have hpc : (s.disguise k fd).pc = s.pc := rfl
  simp only [fetch, hpc, memRead_disguise]; rfl

theorem jump_disguise (mode : Mode) (w : Word) : jump mode w (s.disguise k fd) = (jump mode w s).disguise k fd := by
  unfold jump
  split
  · simp only [jumpIndirect, resolveIndirect, readWord_disguise]; rfl
  · rfl

theorem jumpSubroutine_disguise (w : Word) :
    jumpSubroutine w (s.disguise k fd) = (jumpSubroutine w s).disguise k fd := by
  have hpc : (s.disguise k fd).pc = s.pc := rfl
  simp only [jumpSubroutine, hpc, pushWord_disguise, fetch_disguise]; rfl

theorem returnFromSubroutine_disguise :
    returnFromSubroutine (s.disguise k fd) = (returnFromSubroutine s).disguise k fd := by
  simp only [returnFromSubroutine, pullWord_disguise]; rfl

theorem enterHandler_disguise (status : Byte) (vector : Word) :
    enterHandler status vector (s.disguise k fd) = (enterHandler status vector s).disguise k fd := by
  have hpc : (s.disguise k fd).pc = s.pc := rfl
  have hmask : ∀ t : State, { t.disguise k fd with p := { (t.disguise k fd).p with i := true } } =
      State.disguise k fd { t with p := { t.p with i := true } } := fun _ => rfl
  simp only [enterHandler, hpc, pushWord_disguise, push_disguise, hmask, readWord_disguise]; rfl

theorem retire_disguise (d : Descriptor) (iBefore crossed : Bool) (extra : Nat) :
    retire d iBefore crossed extra (s.disguise k fd) = (retire d iBefore crossed extra s).disguise k fd := by
  have hcycles : ∀ n, s.cycles + k + n = s.cycles + n + k := fun n => Nat.add_right_comm ..
  simp only [retire, State.disguise, hcycles]; rfl

end

/-- The rule does the same from the disguised state: it reads nothing of what the disguise changed, and keeps it. -/
def Rule.Blind (k : Nat) (fd : Bool → Bool) : Rule → Prop
  | .read act => ∀ m s, act m (s.disguise k fd) = (act m s).disguise k fd
  | .store value => ∀ s, value (s.disguise k fd) = value s
  | .modify op => ∀ m p, op m (p.mapD fd) = ⟨(op m p).value, (op m p).status.mapD fd⟩
  | .implied act => ∀ s, act (s.disguise k fd) = (act s).disguise k fd
  | .branch cond => ∀ p, cond (p.mapD fd) = cond p

theorem shiftRule_blind {k : Nat} {fd : Bool → Bool} {op : Byte → Status → Modified}
    (h : (Rule.modify op).Blind k fd) (mode : Mode) : (shiftRule mode op).Blind k fd := by
  unfold shiftRule
  split
  · intro s
    have hop : op (s.disguise k fd).a (s.disguise k fd).p = _ := h s.a s.p
    rw [modifyA, hop]; rfl
  · exact h

/-- No rule reads the counter; only PHP and BRK read D, in the byte they push, and only CLD, SED, PLP and RTI write it. -/
theorem ruleOf_blind {m : Mnemonic} {fd : Bool → Bool} (h : m ∈ [.CLD, .SED, .PLP, .RTI, .PHP, .BRK] → fd = id)
    (k : Nat) (mode : Mode) (w : Word) : (ruleOf m mode w).Blind k fd := by
  cases m
  case ASL | LSR | ROL | ROR => exact shiftRule_blind (fun _ _ => rfl) mode
  case PHA => exact fun s => push_disguise k fd s s.a
  case PLA => intro s; simp only [pullA, pull_disguise]; rfl
  case JMP => exact fun s => jump_disguise k fd s mode w
  case JSR => exact fun s => jumpSubroutine_disguise k fd s w
  case RTS => exact returnFromSubroutine_disguise k fd
  case CLD | SED => cases h (by decide); exact fun _ => rfl
  case PHP => cases h (by decide); exact fun s => push_disguise k id s _
  case PLP => cases h (by decide); intro s; simp only [pullP, pull_disguise]; rfl
  case RTI => cases h (by decide); intro s; rw [returnFromHandler_eq, returnFromHandler_eq]; rfl
  case BRK => cases h (by decide); exact fun s => enterHandler_disguise k id { s with pc := s.pc + 1 } _ _
  case LDA | LDX | LDY | ADC | SBC | AND | ORA | EOR | CMP | CPX | CPY | BIT | INC | DEC => exact fun _ _ => rfl
  all_goals exact fun _ => rfl

section
variable {k : Nat} {fd : Bool → Bool} {d : Descriptor} {s t : State}

theorem readClass_disguise {f : ReadForm} {act : Byte → State → State} (h : (Rule.read act).Blind k fd)
    (hrun : readClass d f act s = .next t) : readClass d f act (s.disguise k fd) = .next (t.disguise k fd) := by
  cases hrun
  simp only [readClass, readOperand_disguise, h _ _, retire_disguise]
  rfl

theorem storeClass_disguise {f : AddrForm} {v : Byte} (hrun : storeClass d f v s = .next t) :
    storeClass d f v (s.disguise k fd) = .next (t.disguise k fd) := by
  cases hrun
  simp only [storeClass, resolve_disguise, resolve_state, memWrite_disguise, retire_disguise]
  rfl

theorem modifyClass_disguise {f : AddrForm} {op : Byte → Status → Modified} (h : (Rule.modify op).Blind k fd)
    (hrun : modifyClass d (.mem f) op s = .next t) :
    modifyClass d (.mem f) op (s.disguise k fd) = .next (t.disguise k fd) := by
  rw [modifyClass_mem] at hrun ⊢
  cases hrun
  have hp : (s.disguise k fd).p = s.p.mapD fd := rfl
  simp only [resolve_disguise, memRead_disguise, hp, h _ _, memWrite_disguise, ← retire_disguise]
  rfl

theorem impliedClass_disguise {act : State → State} (h : (Rule.implied act).Blind k fd)
    (hrun : impliedClass d act s = .next t) : impliedClass d act (s.disguise k fd) = .next (t.disguise k fd) := by
  cases hrun
  rw [impliedClass, h s, ← retire_disguise]
  rfl

theorem branch_disguise {disp : Byte} {cond : Bool} (hrun : branch d disp cond s = .next t) :
    branch d disp cond (s.disguise k fd) = .next (t.disguise k fd) := by
  cases cond <;> cases hrun <;> simp only [branch, ← retire_disguise] <;> rfl

/-- An instruction whose rule is blind goes from the disguised state to the disguised next state. -/
theorem exec_disguise {i : Instr} (h : (Rule.ofInstr i).Blind k fd) (hexec : exec i s = .next t) :
    exec i (s.disguise k fd) = .next (t.disguise k fd) := by
  have hrun := run_ofInstr i s
  have hrun' := run_ofInstr i (s.disguise k fd)
  rw [hexec] at hrun
  generalize Rule.ofInstr i = r at h hrun hrun'
  refine Option.some.inj (hrun'.symm.trans ?_)
  cases r with
  | read act =>
    obtain ⟨f, hf, hclass⟩ := Option.map_eq_some_iff.mp hrun
    exact Option.map_eq_some_iff.mpr ⟨f, hf, readClass_disguise h hclass⟩
  | store value =>
    obtain ⟨f, hf, hclass⟩ := Option.map_eq_some_iff.mp hrun
    exact Option.map_eq_some_iff.mpr ⟨f, hf, by rw [h s]; exact storeClass_disguise hclass⟩
  | modify op =>
    obtain ⟨f, hf, hclass⟩ := Option.map_eq_some_iff.mp hrun
    exact Option.map_eq_some_iff.mpr ⟨f, hf, modifyClass_disguise h hclass⟩
  | implied act => exact congrArg some (impliedClass_disguise h (Option.some.inj hrun))
  | branch cond =>
    have hcond : cond (s.disguise k fd).p = cond s.p := h s.p
    rw [Rule.run, hcond]
    exact congrArg some (branch_disguise (Option.some.inj hrun))

end

/-- Settles O48: a run from the counter `c` and the run from `s` are one run from the counter 0, disguised. -/
theorem cycleCounterIsNeverRead : Obligations.CycleCounterIsNeverRead := by
  intro i s t c hexec
  obtain ⟨u, hzero, -⟩ := everyInstructionCompletes i { s with cycles := 0 }
  have counting : ∀ k, exec i { s with cycles := k } = .next { u with cycles := u.cycles + k } := by
    intro k
    have hrun := exec_disguise (k := k) (fd := id) (ruleOf_blind (fun _ => rfl) ..) hzero
    rwa [State.disguise_id, State.disguise_id, Nat.zero_add] at hrun
  obtain rfl := Host.Outcome.next.inj ((counting s.cycles).symm.trans hexec)
  rw [counting c, Nat.add_sub_cancel, Nat.add_comm]

/-- Settles O49: outside the six mnemonics a rule is blind to D. -/
theorem decimalFlagIsInert : Obligations.DecimalFlagIsInert := by
  intro i s t d hm hexec
  exact exec_disguise (k := 0) (fd := fun _ => d) (ruleOf_blind (fun h => absurd h hm) ..) hexec

/-! ### What every step keeps -/

/-- The store is canonical and the host was delivered every read it answered. -/
def StoreOk (s : State) : Prop := s.mem.wf = true ∧ readsIn s.extLog = s.extReads

/-- The change from `s` to `t` keeps `StoreOk`. -/
abbrev KeepsStore (s t : State) : Prop := StoreOk s → StoreOk t

theorem keepsStore_ambient : Ambient KeepsStore where
  trans hst htu h := htu (hst h)
  read a s h := by
    obtain ⟨hmem, hreads⟩ := h
    rw [memRead_eq]
    split
    · exact ⟨hmem, congrArg (· + 1) hreads⟩
    · exact ⟨hmem, hreads⟩
  write a v s h := by
    obtain ⟨hmem, hreads⟩ := h
    refine ⟨memWrite_wf hmem a v, ?_⟩
    rw [memWrite_eq]
    split <;> exact hreads
  pc _ _ h := h
  retire _ _ _ _ _ h := h

/-! A push is a bus write and a pull a bus read; `StoreOk` does not see the other fields they change. -/

theorem push_keepsStore (v : Byte) (s : State) : KeepsStore s (push v s) :=
  keepsStore_ambient.write (stackAddr s.sp) v s

theorem pushWord_keepsStore (w : Word) (s : State) : KeepsStore s (pushWord w s) :=
  keepsStore_ambient.trans (push_keepsStore _ s) (push_keepsStore _ _)

theorem pull_keepsStore (s : State) : KeepsStore s (pull s).state :=
  keepsStore_ambient.read (stackAddr (s.sp + 1)) { s with sp := s.sp + 1 }

theorem pullWord_keepsStore (s : State) : KeepsStore s (pullWord s).state :=
  keepsStore_ambient.trans (pull_keepsStore s) (pull_keepsStore _)

theorem enterHandler_keepsStore (status : Byte) (vector : Word) (s : State) :
    KeepsStore s (enterHandler status vector s) := fun h =>
  have hpushed := push_keepsStore status _ (pushWord_keepsStore s.pc s h)
  keepsStore_ambient.readWord vector (vector + 1) { push status (pushWord s.pc s) with p := _ } hpushed

theorem returnFromHandler_keepsStore (s : State) : KeepsStore s (returnFromHandler s) := fun h =>
  pullWord_keepsStore { (pull s).state with p := _ } (pull_keepsStore s h)

theorem ruleOf_keepsStore (m : Mnemonic) (mode : Mode) (w : Word) : (ruleOf m mode w).Within KeepsStore := by
  cases m
  case STA | STX | STY | BCC | BCS | BEQ | BMI | BNE | BPL | BVC | BVS => trivial
  case ASL | LSR | ROL | ROR => exact shiftRule_within (fun _ _ => id) fun _ _ => id
  case PHA | PHP => exact fun s => push_keepsStore _ s
  case PLA | PLP => exact pull_keepsStore
  case JMP => exact keepsStore_ambient.jump mode w
  case JSR => exact fun s => keepsStore_ambient.trans (pushWord_keepsStore s.pc s) (keepsStore_ambient.fetch _)
  case RTS => exact pullWord_keepsStore
  case BRK => exact fun s => enterHandler_keepsStore _ _ { s with pc := s.pc + 1 }
  case RTI => exact returnFromHandler_keepsStore
  case LDA | LDX | LDY | ADC | SBC | AND | ORA | EOR | CMP | CPX | CPY | BIT | INC | DEC => exact fun _ _ => id
  all_goals exact fun _ => id

theorem exec_keepsStore {i : Instr} {s t : State} (hexec : exec i s = .next t) : KeepsStore s t :=
  exec_within keepsStore_ambient (ruleOf_keepsStore ..) hexec

/-- After an instruction that ran with the skip bit clear, a set skip bit means BRK, which masks the poll. -/
theorem exec_masked {i : Instr} {s t : State} (hexec : exec i s = .next t) (hclear : s.skipPoll = false)
    (hskip : t.skipPoll = true) : t.iPoll = true ∧ t.p.i = true := by
  obtain ⟨-, hbit, -⟩ := hiddenStateFrame i s t hexec
  have hbrk : i.descriptor.mnemonic = .BRK := by
    by_contra hne
    rw [if_neg (mt List.mem_singleton.mp hne), hclear, hskip] at hbit
    exact absurd hbit (by decide)
  rw [exec_BRK hbrk hexec]
  simp [hbrk, delaysPoll, softwareBreak]

theorem interruptEntry_inv {kind : Interrupt} {s : State} (h : s.Inv) : (interruptEntry kind s).Inv := by
  have hstore : StoreOk s := ⟨h.memCanonical, h.readsDelivered⟩
  obtain ⟨hmem, hreads⟩ := enterHandler_keepsStore s.p.pushedByInterrupt kind.vector s hstore
  exact ⟨hmem, fun _ => ⟨rfl, by simp [interruptEntry]⟩, hreads⟩

theorem interruptEntry_halted (kind : Interrupt) (s : State) : (interruptEntry kind s).halted = s.halted := by
  simp [interruptEntry]

/-- Settles O59 (log entry 4 for the deliveries): a step is an interrupt entry, or an instruction that ran with the skip bit clear. -/
theorem everyStepKeepsInvariant : Obligations.EveryStepKeepsInvariant := by
  intro s t hinv hstep
  obtain ⟨hrunning, ⟨kind, -, rfl⟩ | ⟨-, i, f, hfetch, hexec⟩⟩ := step_next hstep
  · exact ⟨interruptEntry_inv hinv, hrunning, (interruptEntry_halted kind s).trans hrunning⟩
  · have hstore : StoreOk f := keepsStore_ambient.fetchInstr hfetch ⟨hinv.memCanonical, hinv.readsDelivered⟩
    obtain ⟨hmem, hreads⟩ := exec_keepsStore hexec hstore
    obtain ⟨_, _, _, rfl⟩ := fetchInstr_frame hfetch
    obtain ⟨-, -, hhalted, -⟩ := hiddenStateFrame i _ t hexec
    exact ⟨⟨hmem, exec_masked hexec rfl, hreads⟩, hrunning, hhalted.trans hrunning⟩

end Sys2Proof.Machine
end

section
/-! PROOFS of family 20_memory.md: what an access to the bus reads and writes, and which byte of the store an instruction
can change. The one idea is that an address stands for one cell (`cellIndex`), so that mirrors and frames are equations
between cells; an instruction then either has a rule that leaves the store (`ruleOf_keepsMem`), or is one bus write at its
effective address (`exec_writesAt`). -/

namespace Sys2Proof.Machine
open Claims

/-! ### Cells and mirrors (20_memory.md R27, R28) -/

/-- Two addresses name one cell exactly when they are equal or mirrors of the same RAM byte. -/
theorem cellIndex_eq_cellIndex_iff (a b : Word) :
    cellIndex a = cellIndex b ↔
      b.toNat = a.toNat ∨ (b.toNat ≤ 0x1FFF ∧ a.toNat ≤ 0x1FFF ∧ b.toNat % 0x800 = a.toNat % 0x800) := by
  rw [cellIndex_eq, cellIndex_eq]
  split <;> split <;> omega

/-- A mirror of a RAM address is in RAM and names the same cell. -/
theorem cellIndex_mirror {a b : Word} (ha : a.toNat ≤ 0x1FFF)
    (hb : b.toNat = a.toNat % 0x800 ∨ b.toNat = a.toNat % 0x800 + 0x800 ∨
      b.toNat = a.toNat % 0x800 + 0x1000 ∨ b.toNat = a.toNat % 0x800 + 0x1800) :
    b.toNat ≤ 0x1FFF ∧ cellIndex b = cellIndex a := by
  have hle : b.toNat ≤ 0x1FFF := by omega
  exact ⟨hle, (cellIndex_eq_cellIndex_iff b a).mpr (.inr ⟨ha, hle, by omega⟩)⟩

/-- Writes to other cells leave the byte behind an address, whoever answers them. -/
theorem foldl_memWrite_peek {b : Word} {writes : List (Word × Byte)} (h : ∀ w ∈ writes, cellIndex w.1 ≠ cellIndex b)
    (s : State) : (writes.foldl (fun t w => memWrite w.1 w.2 t) s).peek b = s.peek b := by
  induction writes generalizing s with
  | nil => rfl
  | cons w rest ih =>
    obtain ⟨hw, hrest⟩ := List.forall_mem_cons.mp h
    rw [List.foldl_cons, ih hrest, memWrite_peek, if_neg fun hsame => hw hsame.1.symm]

/-- Settles O6: the later writes leave the cell that the first one set, and all mirrors name that cell. -/
theorem ramMirrorsShareStorage : Obligations.RamMirrorsShareStorage := by
  intro s a b v ha hb writes hwrites
  obtain ⟨hram, hcell⟩ := cellIndex_mirror ha hb
  have hother : ∀ w ∈ writes, cellIndex w.1 ≠ cellIndex b := by
    intro w hw hsame
    rw [hcell, cellIndex_eq_cellIndex_iff] at hsame
    have hdistinct := hwrites w hw
    omega
  rw [memRead_quiet (hostAnswers_ram _ hram), foldl_memWrite_peek hother, memWrite_peek,
    if_pos ⟨hcell, hostAnswers_ram s ha⟩]

/-- Settles O7: the access is the store's, at the cell of the address. -/
theorem writeChangesOneCell : Obligations.WriteChangesOneCell := by
  intro s a v h index
  have hcell : cellIndex a = index := cellIndex_eq a
  refine ⟨by rw [State.peek, hcell], memRead_quiet h, ?_, fun j => ?_, fun b => ?_⟩
  · rw [memWrite_quiet h]
  · simp only [memWrite_read, hcell, h, and_true]
  · simp only [memWrite_peek, cellIndex_eq_cellIndex_iff, h, and_true]

/-- A bus read that the host answers: its free byte, and the delivery (log entry 4). -/
theorem memRead_host {a : Word} {s : State} (h : s.hostAnswers a = true) :
    memRead a s =
      ⟨Config.extAnswer s.extReads a,
        { s with extReads := s.extReads + 1, extLog := .read a (Config.extAnswer s.extReads a) :: s.extLog }⟩ := by
  rw [memRead_eq, if_pos h]

/-- A bus write that the host answers is a delivery. -/
theorem memWrite_host {a : Word} {s : State} (h : s.hostAnswers a = true) (v : Byte) :
    memWrite a v s = { s with extLog := .write a v :: s.extLog } := by
  rw [memWrite_eq, if_pos h]

/-- Settles O8 (log entry 4 for the host's side): above RAM, EXT_BUS alone says whether the host answers. -/
theorem externalRegionFollowsExtBus : Obligations.ExternalRegionFollowsExtBus := by
  intro s a v ha
  refine ⟨fun hflat => ?_, fun hext => ?_⟩
  · have hstore : s.hostAnswers a = false := hostAnswers_flat hflat a
    rw [memRead_quiet hstore, memWrite_quiet hstore, State.peek, cellIndex_ext ha]
    exact ⟨rfl, rfl, rfl⟩
  · have hhost : s.hostAnswers a = true := (hostAnswers_iff s a).mpr ⟨hext, ha⟩
    rw [memRead_host hhost, memWrite_host hhost]
    exact ⟨rfl, rfl, rfl⟩

/-! ### Instructions that leave the store (R39) -/

/-- The rule writes no memory: it is not one of the two that end in a bus write, and what it does leaves the store. -/
def Rule.KeepsMem : Rule → Prop
  | .read act => ∀ m s, (act m s).mem = s.mem
  | .store _ | .modify _ => False
  | .implied act => ∀ s, (act s).mem = s.mem
  | .branch _ => True

theorem branch_mem {d : Descriptor} {disp : Byte} {cond : Bool} {s t : State} (hrun : branch d disp cond s = .next t) :
    t.mem = s.mem := by
  cases cond <;> cases hrun <;> rfl

/-- An instruction leaves the store where its rule does: an operand read and the end of an instruction write nothing. -/
theorem exec_keepsMem {i : Instr} {s t : State} (h : (Rule.ofInstr i).KeepsMem) (hexec : exec i s = .next t) :
    t.mem = s.mem := by
  have hrun := run_ofInstr i s
  rw [hexec] at hrun
  generalize Rule.ofInstr i = r at h hrun
  cases r with
  | read act =>
    obtain ⟨f, -, hf⟩ := Option.map_eq_some_iff.mp hrun
    cases hf
    exact (h _ _).trans (readOperand_mem f s)
  | store value => exact h.elim
  | modify op => exact h.elim
  | implied act =>
    cases hrun
    exact h s
  | branch cond => exact branch_mem (Option.some.inj hrun)

theorem pull_mem (s : State) : (pull s).state.mem = s.mem := by rw [pull_eq]

theorem jump_mem (mode : Mode) (w : Word) (s : State) : (jump mode w s).mem = s.mem := by
  unfold jump
  split
  · exact readWord_mem ..
  · rfl

/-- The memory frame of the rules: outside the mnemonics that store and those that push, no rule writes memory, nor does
a shift of A. -/
theorem ruleOf_keepsMem {m : Mnemonic} {mode : Mode}
    (hstore : m ∈ [.STA, .STX, .STY, .INC, .DEC, .ASL, .LSR, .ROL, .ROR] → mode = .acc ∧ m ∈ [.ASL, .LSR, .ROL, .ROR])
    (hpush : m ∉ [.PHA, .PHP, .JSR, .BRK]) (w : Word) : (ruleOf m mode w).KeepsMem := by
  cases m
  case STA | STX | STY | INC | DEC => exact absurd (hstore (by decide)).2 (by decide)
  case ASL | LSR | ROL | ROR => cases (hstore (by decide)).1; exact fun _ => rfl
  case PHA | PHP | JSR | BRK => exact absurd (by decide) hpush
  case PLA | PLP => exact pull_mem
  case JMP => exact jump_mem mode w
  case RTS => intro s; rw [returnFromSubroutine, pullWord_eq]
  case RTI => intro s; rw [returnFromHandler_eq]
  case BCC | BCS | BEQ | BMI | BNE | BPL | BVC | BVS => trivial
  case LDA | LDX | LDY | ADC | SBC | AND | ORA | EOR | CMP | CPX | CPY | BIT => exact fun _ _ => rfl
  all_goals exact fun _ => rfl

/-- Only shifts and rotates have the accumulator mode (40_addressing.md R58). -/
theorem mnemonic_of_mode_acc {i : Instr} (h : i.descriptor.mode = .acc) : isOne i [.ASL, .LSR, .ROL, .ROR] := by
  cases i
  case aslAcc | lsrAcc | rolAcc | rorAcc => decide
  all_goals cases h

theorem storesAtAddress_iff (i : Instr) :
    storesAtAddress i = true ↔
      i.descriptor.mode ≠ .acc ∧ isOne i [.STA, .STX, .STY, .INC, .DEC, .ASL, .LSR, .ROL, .ROR] := by
  simp only [storesAtAddress, Bool.and_eq_true, bne_iff_ne, decide_eq_true_eq]

/-- Settles O53: what neither stores nor pushes has a rule that leaves the store. -/
theorem memoryFrameOfNonStoringInstructions : Obligations.MemoryFrameOfNonStoringInstructions := by
  intro i s t hstore hpush hexec
  refine exec_keepsMem (ruleOf_keepsMem (fun hm => ?_) (of_decide_eq_false hpush) _) hexec
  have hacc : i.descriptor.mode = .acc := by
    by_contra hmemory
    exact Bool.false_ne_true (hstore.symm.trans ((storesAtAddress_iff i).mpr ⟨hmemory, hm⟩))
  exact ⟨hacc, mnemonic_of_mode_acc hacc⟩

/-! ### Instructions that write one byte (R39, 40_addressing.md R71) -/

/-- From `s` to `t` one byte was written through the bus, to the address `a`, and A, X, Y, SP and PC were left alone. -/
def WritesAt (a : Word) (s t : State) : Prop :=
  (∃ v, t.mem = (memWrite a v s).mem) ∧ t.a = s.a ∧ t.x = s.x ∧ t.y = s.y ∧ t.sp = s.sp ∧ t.pc = s.pc

/-- A bus read does not change what the store is after a bus write. -/
theorem memWrite_memRead_mem (a b : Word) (v : Byte) (s : State) :
    (memWrite a v (memRead b s).state).mem = (memWrite a v s).mem := by
  have hhost : (memRead b s).state.hostAnswers a = s.hostAnswers a := hostAnswers_congr (memRead_config b s) a
  rw [memWrite_eq, memWrite_eq, hhost]
  split
  · exact memRead_mem b s
  · exact congrArg (·.write (cellIndex a) v) (memRead_mem b s)

theorem storeClass_writesAt {d : Descriptor} {f : AddrForm} {v : Byte} {s t : State}
    (hrun : storeClass d f v s = .next t) : WritesAt (resolve f s).ea s t := by
  rw [storeClass_eq] at hrun
  cases hrun
  exact ⟨⟨v, rfl⟩, by simp⟩

theorem modifyClass_writesAt {d : Descriptor} {f : AddrForm} {op : Byte → Status → Modified} {s t : State}
    (hrun : modifyClass d (.mem f) op s = .next t) : WritesAt (resolve f s).ea s t := by
  rw [modifyClass_mem] at hrun
  cases hrun
  exact ⟨⟨_, memWrite_memRead_mem ..⟩, by simp⟩

/-- The rule of a store is one of its register. -/
theorem ruleOf_store {m : Mnemonic} (h : m ∈ [.STA, .STX, .STY]) (mode : Mode) (w : Word) :
    ∃ value, ruleOf m mode w = .store value := by
  fin_cases h
  · exact ⟨State.a, rfl⟩
  · exact ⟨State.x, rfl⟩
  · exact ⟨State.y, rfl⟩

/-- The rule of a read-modify-write mnemonic, in a mode of memory. -/
theorem ruleOf_modify {m : Mnemonic} (h : m ∈ [.INC, .DEC, .ASL, .LSR, .ROL, .ROR]) {mode : Mode} (hmode : mode ≠ .acc)
    (w : Word) : ∃ op, ruleOf m mode w = .modify op := by
  have hshift : ∀ op, shiftRule mode op = .modify op := fun _ => if_neg hmode
  fin_cases h
  · exact ⟨increment, rfl⟩
  · exact ⟨decrement, rfl⟩
  · exact ⟨shiftLeft, hshift _⟩
  · exact ⟨shiftRight, hshift _⟩
  · exact ⟨rotateLeft, hshift _⟩
  · exact ⟨rotateRight, hshift _⟩

/-- An instruction is what its rule runs to. -/
theorem exec_of_run {i : Instr} {s : State} {r : Rule} {o : Host.Outcome State Fault Refusal}
    (hrule : Rule.ofInstr i = r) (hrun : r.run i s = some o) : exec i s = o :=
  Option.some.inj ((hrule ▸ run_ofInstr i s).symm.trans hrun)

theorem exec_store {i : Instr} {f : AddrForm} {value : State → Byte} (hrule : Rule.ofInstr i = .store value)
    (hf : addrFormOf i = some f) (s : State) : exec i s = storeClass i.descriptor f (value s) s :=
  exec_of_run hrule (by rw [Rule.run, hf, Option.map_some])

theorem exec_modify {i : Instr} {f : AddrForm} {op : Byte → Status → Modified} (hrule : Rule.ofInstr i = .modify op)
    (hf : addrFormOf i = some f) (s : State) : exec i s = modifyClass i.descriptor (.mem f) op s :=
  exec_of_run hrule (by rw [Rule.run, hf, Option.map_some])

/-- A storing instruction is one bus write at the address its mode resolves to. -/
theorem exec_writesAt {i : Instr} {f : AddrForm} {s t : State} (hstore : storesAtAddress i = true)
    (hf : addrFormOf i = some f) (hexec : exec i s = .next t) : WritesAt (resolve f s).ea s t := by
  obtain ⟨hmode, hm⟩ := (storesAtAddress_iff i).mp hstore
  rcases List.mem_append (s := [Mnemonic.STA, .STX, .STY]).mp hm with hm | hm
  · obtain ⟨value, hrule⟩ := ruleOf_store hm i.descriptor.mode (operandWord i)
    exact storeClass_writesAt (exec_store hrule hf s ▸ hexec)
  · obtain ⟨op, hrule⟩ := ruleOf_modify hm hmode (operandWord i)
    exact modifyClass_writesAt (exec_modify hrule hf s ▸ hexec)

/-- Settles O54: a bus write changes one cell, or none where the host takes it. -/
theorem storingInstructionsChangeOneByte : Obligations.StoringInstructionsChangeOneByte := by
  intro i s t f hstore hf hexec
  obtain ⟨⟨v, hmem⟩, hregisters⟩ := exec_writesAt hstore hf hexec
  refine ⟨fun j hj => ?_, fun hhost => ?_, hregisters⟩
  · rw [hmem, memWrite_read, if_neg fun hcell => hj hcell.1]
  · rw [hmem, memWrite_host hhost]

/-- A form of memory is not that of the accumulator mode, and is the form of the instruction's address. -/
theorem addrFormOf_of_modifyFormOf {i : Instr} {f : AddrForm} (h : modifyFormOf i = some (.mem f)) :
    i.descriptor.mode ≠ .acc ∧ addrFormOf i = some f := by
  unfold modifyFormOf at h
  split at h
  · cases h
  · cases h
    exact ⟨‹_›, by rw [addrFormOf, ‹readFormOf i = _›]⟩
  · cases h

/-- What a read-modify-write of an address the host answers leaves: a read and then a write in the log, and no change of
the store. -/
theorem modifyClass_host {d : Descriptor} {f : AddrForm} {op : Byte → Status → Modified} {s : State}
    (hhost : s.hostAnswers (resolve f s).ea = true) :
    ∃ t v, modifyClass d (.mem f) op s = .next t ∧
      t.extLog = .write (resolve f s).ea v :: .read (resolve f s).ea (Config.extAnswer s.extReads (resolve f s).ea) ::
        s.extLog ∧
      t.extReads = s.extReads + 1 ∧ t.mem = s.mem := by
  simp only [modifyClass_mem, memRead_host hhost]
  rw [memWrite_host (by exact hhost)]
  exact ⟨_, _, rfl, rfl, rfl, rfl⟩

/-- Settles O9 (log entry 4 for the log, the count and the answer): the rule is a read-modify-write of the host's address. -/
theorem externalModifyIsOneReadThenOneWrite : Obligations.ExternalModifyIsOneReadThenOneWrite := by
  intro i f s hform hm hhost
  obtain ⟨hmode, hf⟩ := addrFormOf_of_modifyFormOf hform
  obtain ⟨op, hrule⟩ := ruleOf_modify hm hmode (operandWord i)
  rw [exec_modify hrule hf s]
  exact modifyClass_host hhost

end Sys2Proof.Machine
end

section
/-! PROOFS of family 30_encoding.md: the decoder and the encoder are inverse, which bytes are no opcode, and that a step
runs what the bytes at PC decode to. The one idea is that both directions are about the same pair, an opcode byte and its
operand bytes: the decoder splits the bytes into one and assembles the instruction (`decode_eq_ok_iff`), and that is the
pair the encoder writes out (`assemble_eq_some_iff`). -/

namespace Sys2Proof
open Machine Claims

/-! ### The instruction of an opcode byte and its operand bytes (30_encoding.md R43, R48, R54) -/

/-- The instruction a form makes of operand bytes, when they are as many as the form takes. -/
def Form.fill : Form → OperandBytes → Option Instr
  | .implied i, .none => some i
  | .byteOperand mk, .one nn => some (mk nn)
  | .wordOperand mk, .two w => some (mk w)
  | _, _ => none

/-- The instruction that an opcode byte and operand bytes make, if any. -/
def assemble (op : Byte) (o : OperandBytes) : Option Instr := (opcodeForm op).bind (·.fill o)

theorem assemble_of_form {op : Byte} {f : Form} {o : OperandBytes} {i : Instr} (hform : opcodeForm op = some f)
    (hfill : f.fill o = some i) : assemble op o = some i :=
  Option.bind_eq_some_iff.mpr ⟨f, hform, hfill⟩

/-- Each instruction is made of its own opcode and operand bytes. -/
theorem assemble_encoded (i : Instr) : assemble i.descriptor.opcode i.operandBytes = some i := by
  cases i <;> rfl

/-- An instruction is made of no other bytes: each row of the lookup names its own opcode and keeps its operand. -/
theorem encoded_of_assemble {op : Byte} {o : OperandBytes} {i : Instr} (h : assemble op o = some i) :
    op = i.descriptor.opcode ∧ o = i.operandBytes := by
  obtain ⟨f, hform, hfill⟩ := Option.bind_eq_some_iff.mp h
  unfold opcodeForm at hform
  -- one goal for each row; of the operand shapes only the one that the row's form takes is left
  split at hform <;> cases hform <;>
    (cases o <;> cases hfill
     exact ⟨BitVec.eq_of_toNat_eq ‹op.toNat = _›, rfl⟩)

theorem assemble_eq_some_iff {op : Byte} {o : OperandBytes} {i : Instr} :
    assemble op o = some i ↔ op = i.descriptor.opcode ∧ o = i.operandBytes :=
  ⟨encoded_of_assemble, fun ⟨hop, ho⟩ => hop ▸ ho ▸ assemble_encoded i⟩

/-! ### Decoding and encoding are inverse -/

/-- The decoder reads an opcode byte and the operand bytes that complete it. -/
theorem decode_eq_ok_iff {bytes rest : List Byte} {i : Instr} :
    decode bytes = .ok (i, rest) ↔ ∃ op o, bytes = op :: (o.toList ++ rest) ∧ assemble op o = some i := by
  constructor
  · intro h
    obtain ⟨op, _, rfl, ⟨hform, rfl⟩ | ⟨mk, nn, hform, rfl, rfl⟩ | ⟨mk, ll, hh, hform, rfl, rfl⟩⟩ := decode_cases h
    · exact ⟨op, .none, rfl, assemble_of_form hform rfl⟩
    · exact ⟨op, .one nn, rfl, assemble_of_form hform rfl⟩
    · exact ⟨op, .two (makeWord ll hh), by simp [OperandBytes.toList], assemble_of_form hform rfl⟩
  · rintro ⟨op, o, rfl, h⟩
    obtain ⟨f, hform, hfill⟩ := Option.bind_eq_some_iff.mp h
    match f, o, hfill with
    | .implied _, .none, rfl => exact decode_implied hform rest
    | .byteOperand _, .one nn, rfl => exact decode_byte hform nn rest
    | .wordOperand _, .two w, rfl => exact decode_word_bytes hform w rest

/-- Bytes decode to an instruction and a rest exactly when they are its encoding and that rest. -/
theorem decode_eq_ok_iff_encode {bytes rest : List Byte} {i : Instr} :
    decode bytes = .ok (i, rest) ↔ bytes = encode i ++ rest := by
  simp [decode_eq_ok_iff, assemble_eq_some_iff, encode]

/-- Settles O2: the encoding is one of the byte sequences that decode to the instruction. -/
theorem decodeOfEncodeIsIdentity : Obligations.DecodeOfEncodeIsIdentity :=
  fun _ _ => decode_eq_ok_iff_encode.mpr rfl

/-- Settles O3: it is the only one. -/
theorem decodedBytesAreTheEncoding : Obligations.DecodedBytesAreTheEncoding :=
  fun _ _ _ => decode_eq_ok_iff_encode.mp

/-! ### The bytes that are no opcode (30_encoding.md R49) -/

theorem opcodeForm_eq_none_iff : ∀ op : Byte, opcodeForm op = none ↔ op.toNat ∈ illegalBytes := by decide

/-- Only a byte without a form is rejected as an opcode; missing operand bytes are another error. -/
theorem decode_eq_illegal_iff {op : Byte} {rest : List Byte} :
    decode (op :: rest) = .error (.illegalOpcode op) ↔ opcodeForm op = none := by
  refine ⟨fun h => ?_, fun h => decode_illegal h rest⟩
  cases hform : opcodeForm op with
  | none => rfl
  | some f =>
    simp only [decode, hform] at h
    split at h
    · contradiction
    all_goals cases h

/-- Settles O5: the rejected bytes are those without a form, and the 256 bytes decide which those are. -/
theorem exactlyTheListedBytesAreIllegal : Obligations.ExactlyTheListedBytesAreIllegal :=
  ⟨rfl, fun op _ => decode_eq_illegal_iff.trans (opcodeForm_eq_none_iff op)⟩

/-! ### The spec's examples (30_encoding.md R45, R52) -/

/-- Settles O1: each example byte has its form in the lookup. -/
theorem specExampleWordsDecode : Obligations.SpecExampleWordsDecode := fun nn ll hh rest =>
  ⟨decode_implied rfl rest, decode_implied rfl rest,
    decode_byte rfl nn rest, decode_byte rfl nn rest, decode_byte rfl nn rest, decode_byte rfl nn rest,
    decode_byte rfl nn rest, decode_implied rfl rest,
    makeWord ll hh, makeWord_toNat ll hh,
    decode_word rfl ll hh rest, decode_word rfl ll hh rest, decode_word rfl ll hh rest, decode_word rfl ll hh rest⟩

/-! ### What an opcode's form says of the encoding -/

theorem encode_implied {op : Byte} {i : Instr} (h : opcodeForm op = some (.implied i)) : encode i = [op] := by
  simpa using (decode_eq_ok_iff_encode.mp (decode_implied h [])).symm

theorem encode_byte {op : Byte} {mk : Byte → Instr} (h : opcodeForm op = some (.byteOperand mk)) (nn : Byte) :
    encode (mk nn) = [op, nn] := by
  simpa using (decode_eq_ok_iff_encode.mp (decode_byte h nn [])).symm

theorem encode_word {op : Byte} {mk : Word → Instr} (h : opcodeForm op = some (.wordOperand mk)) (ll hh : Byte) :
    encode (mk (makeWord ll hh)) = [op, ll, hh] := by
  simpa using (decode_eq_ok_iff_encode.mp (decode_word h ll hh [])).symm

end Sys2Proof

namespace Sys2Proof.Machine
open Claims

/-! ### What a step fetches (30_encoding.md R46, R47) -/

/-- JSR is known by its opcode. -/
theorem mnemonic_beq_jsr (i : Instr) : (i.descriptor.mnemonic == .JSR) = (i.descriptor.opcode == jsrOpcode) := by
  cases i <;> rfl

/-- How far the step moves PC before an instruction acts: past all its bytes, but for JSR past two (45_control.md R114). -/
def fetchedBytes (i : Instr) : Word := if isOne i [.JSR] then 2 else BitVec.ofNat 16 (encode i).length

theorem fetchedBytes_eq {i : Instr} {op : Byte} {tail : List Byte} (h : encode i = op :: tail) :
    fetchedBytes i = if op = jsrOpcode then 2 else BitVec.ofNat 16 (tail.length + 1) := by
  have hjsr : i.descriptor.mnemonic = .JSR ↔ op = jsrOpcode := by
    rw [← (List.cons.inj h).1, ← beq_iff_eq, mnemonic_beq_jsr, beq_iff_eq]
  simp [fetchedBytes, isOne, hjsr, h]

/-- A fetch of a stored byte, `k` bytes on. -/
theorem fetch_quiet_at {s : State} {k : Word} (h : s.hostAnswers (s.pc + k) = false) :
    fetch { s with pc := s.pc + k } = ⟨s.peek (s.pc + k), { s with pc := s.pc + (k + 1) }⟩ := by
  rw [← BitVec.add_assoc]
  exact fetch_quiet h

/-- The bytes at PC, where the store gives them, are fetched as the instruction they decode to. -/
theorem fetchInstr_of_decode {s : State} {i : Instr} {rest : List Byte} (h0 : s.hostAnswers s.pc = false)
    (h1 : s.hostAnswers (s.pc + 1) = false) (h2 : s.hostAnswers (s.pc + 2) = false)
    (h : decode [s.peek s.pc, s.peek (s.pc + 1), s.peek (s.pc + 2)] = .ok (i, rest)) :
    fetchInstr s = .instr i { s with pc := s.pc + fetchedBytes i } := by
  have f0 := fetch_quiet h0
  have f1 := fetch_quiet_at h1
  have f2 : fetch { s with pc := s.pc + (1 + 1) } = _ := fetch_quiet_at h2
  have hop : (fetch s).value = s.peek s.pc := by rw [f0]
  rw [← hop] at h
  obtain ⟨op, tail, hbytes, hcase⟩ := decode_cases h
  obtain ⟨rfl, rfl⟩ := List.cons.inj hbytes
  obtain ⟨hform, -⟩ | ⟨mk, nn, hform, htail, rfl⟩ | ⟨mk, ll, hh, hform, htail, rfl⟩ := hcase
  · have hne : (fetch s).value ≠ jsrOpcode := fun hj => by rw [hj] at hform; cases hform
    rw [fetchInstr_implied hform, fetchedBytes_eq (encode_implied hform), if_neg hne, f0]
    rfl
  · cases htail
    rw [fetchInstr_byte hform, fetchedBytes_eq (encode_byte hform _), f0, f1]
    simp
  · cases htail
    rw [fetchedBytes_eq (encode_word hform _ _)]
    by_cases hj : (fetch s).value = jsrOpcode
    · rw [fetchInstr_jsr hj, if_pos hj, f0, f1]
      rw [hj] at hform
      cases hform
      rfl
    · rw [fetchInstr_word hform hj, if_neg hj, f0, f1, f2]
      rfl

/-- A running core without an interrupt executes what it fetches. -/
theorem step_of_fetchInstr {s f : State} {i : Instr} (hrun : s.halted = none) (hpoll : pollInterrupt s = none)
    (hfetch : fetchInstr { s with skipPoll := false } = .instr i f) : step s = exec i f := by
  rw [step_running hrun hpoll, hfetch]

/-- Settles O45 (log entry 7 for JSR): the fetch sees the store at PC, and skip_poll is no part of it. -/
theorem stepRunsDecodedInstruction : Obligations.StepRunsDecodedInstruction := by
  intro s i rest hrun hpoll h0 h1 h2 hdecode
  exact step_of_fetchInstr hrun hpoll (fetchInstr_of_decode h0 h1 h2 hdecode)

theorem form_of_decode_one {b : Byte} {i : Instr} (h : decode [b] = .ok (i, [])) :
    opcodeForm b = some (.implied i) := by
  simpa using decode_cases h

theorem form_of_decode_two {b c : Byte} {i : Instr} (h : decode [b, c] = .ok (i, [])) :
    ∃ mk, opcodeForm b = some (.byteOperand mk) ∧ i = mk c := by
  simpa using decode_cases h

theorem form_of_decode_three {b c d : Byte} {i : Instr} (h : decode [b, c, d] = .ok (i, [])) :
    ∃ mk, opcodeForm b = some (.wordOperand mk) ∧ i = mk (makeWord c d) := by
  simpa using decode_cases h

/-- Settles O46 (log entry 7 for JSR): the form of the first byte fetched says how many more are. -/
theorem stepFetchesThroughTheBus : Obligations.StepFetchesThroughTheBus := by
  intro s i hrun hpoll
  refine ⟨fun h => ?_, fun h => ?_, fun hj h => ?_, fun hj => ?_⟩
  · exact step_of_fetchInstr hrun hpoll (fetchInstr_implied (form_of_decode_one h))
  · obtain ⟨mk, hform, rfl⟩ := form_of_decode_two h
    exact step_of_fetchInstr hrun hpoll (fetchInstr_byte hform)
  · obtain ⟨mk, hform, rfl⟩ := form_of_decode_three h
    exact step_of_fetchInstr hrun hpoll (fetchInstr_word hform hj)
  · exact step_of_fetchInstr hrun hpoll (fetchInstr_jsr hj)

end Sys2Proof.Machine
end

section
/-! PROOFS of family 40_addressing.md: the effective address and the page crossing of every mode, and the branch target. The
one idea is that the model's address arithmetic is that of `Nat` modulo the width: a sum of bytes stays in page 0
(`zext16_add_toNat`), a sum of a word and a byte carries into the high byte (`indexed_ea_toNat`), and a pointer is two bytes
of page 0 (`zeroPagePointer_toNat`). -/

namespace Sys2Proof.Machine

/-! ### Addresses in page 0 (40_addressing.md R60 to R62) -/

/-- An indexed zero-page address wraps within page 0. -/
theorem zext16_add_toNat (a b : Byte) : (zext16 (a + b)).toNat = (a.toNat + b.toNat) % 256 := by
  rw [zext16_toNat, BitVec.toNat_add]

/-- Page 0 lies in the first mirror of RAM: a byte's address is its own index in the store. -/
theorem peek_zext16 (s : State) (b : Byte) : s.peek (zext16 b) = s.mem.read b.toNat := by
  have hpage := zext16_toNat b
  have hb := b.isLt
  rw [State.peek, cellIndex_ram (by omega), hpage, Nat.mod_eq_of_lt (by omega)]

/-! ### Indexed words (40_addressing.md R64, R65, R68) -/

theorem indexed_ea_toNat (base : Word) (index : Byte) (s : State) :
    (indexed base index s).ea.toNat = (base.toNat + index.toNat) % 65536 := by
  rw [indexed, BitVec.toNat_add, zext16_toNat]

theorem indexed_crossed_iff (base : Word) (index : Byte) (s : State) :
    (indexed base index s).crossed = true ↔ base.toNat / 256 ≠ (base.toNat + index.toNat) % 65536 / 256 := by
  rw [← indexed_ea_toNat base index s]
  exact crossesPage_iff base _

/-- Settles O10: the zero-page modes add bytes, the absolute indexed modes are `indexed`. -/
theorem directModesResolve : Obligations.DirectModesResolve := by
  intro s nn w
  have uncrossed : false = true ↔ False := by decide
  exact ⟨⟨zext16_toNat nn, uncrossed, rfl⟩,
    ⟨zext16_add_toNat nn s.x, uncrossed, rfl⟩,
    ⟨zext16_add_toNat nn s.y, uncrossed, rfl⟩,
    ⟨rfl, uncrossed, rfl⟩,
    ⟨indexed_ea_toNat w s.x s, indexed_crossed_iff w s.x s, rfl⟩,
    ⟨indexed_ea_toNat w s.y s, indexed_crossed_iff w s.y s, rfl⟩⟩

/-! ### Pointers in page 0 (40_addressing.md R67, R68) -/

/-- Both bytes of a pointer come from page 0, the second one modulo 256, and no host sees the reads. -/
theorem zeroPagePointer_toNat (p : Byte) (s : State) :
    (zeroPagePointer p s).value.toNat =
      (s.mem.read p.toNat).toNat + 256 * (s.mem.read ((p.toNat + 1) % 256)).toNat := by
  have hnext : (p + 1).toNat = (p.toNat + 1) % 256 := BitVec.toNat_add p 1
  rw [zeroPagePointer_eq, makeWord_toNat, peek_zext16, peek_zext16, hnext]

/-- Mode (zp),Y is its pointer, indexed by Y. -/
theorem resolve_indy (nn : Byte) (s : State) :
    resolve (.indy nn) s = indexed (zeroPagePointer nn s).value s.y s := by
  simp only [resolve, zeroPagePointer_eq]

/-- Settles O11: (zp,X) is the pointer at nn + X, and (zp),Y is the pointer at nn, indexed. -/
theorem zeroPagePointersWrapInPageZero : Obligations.ZeroPagePointersWrapInPageZero := by
  intro s nn
  refine ⟨⟨?_, rfl, resolve_state _ s⟩, ?_⟩
  · have hpointer := zeroPagePointer_toNat (nn + s.x) s
    rwa [BitVec.toNat_add] at hpointer
  · rw [resolve_indy, ← zeroPagePointer_toNat]
    exact ⟨indexed_ea_toNat _ s.y s, indexed_crossed_iff _ s.y s, rfl⟩

/-! ### Branch targets (40_addressing.md R69) -/

/-- `sext_16` keeps the signed value, modulo 65536. -/
theorem sext16_toNat (b : Byte) : ((sext16 b).toNat : Int) = b.toInt % 65536 := by
  rw [sext16, BitVec.signExtend, BitVec.toNat_ofInt]
  exact Int.toNat_of_nonneg (Int.emod_nonneg _ (by decide))

/-- Settles O12: the sum of words, with the displacement's word read as its signed value. -/
theorem branchTargetIsSignedRelative : Obligations.BranchTargetIsSignedRelative := by
  intro s disp
  calc ((branchTarget disp s).toNat : Int)
    _ = ((s.pc.toNat : Int) + (sext16 disp).toNat) % 65536 := by rw [branchTarget, BitVec.toNat_add]; rfl
    _ = ((s.pc.toNat : Int) + disp.toInt) % 65536 := by rw [sext16_toNat, Int.add_emod_emod]

end Sys2Proof.Machine
end

section
/-! PROOFS of family 41_load_store_transfer.md: the exact next state of loads, stores and transfers. The one idea is that an
instruction ends in one `retire`, which only sets the poll mask to P.I and counts the row's cycles when the rule left both
P.I and the counter (`retire_eq_of_keeps`); what is left of an instruction is then its rule, class by class
(`readsAndDoes_of_rule`, `storesByte_of_rule`, `exec_implied`). -/

namespace Sys2Proof.Machine
open Claims

/-! ### The Encoding lines (41_load_store_transfer.md, and every other rule's) -/

/-- Every instruction stands in the Encoding line of its mnemonic. -/
theorem encoded_self (i : Instr) : Encoded i.descriptor.mnemonic i := by
  cases i <;> exact ⟨rfl, of_decide_eq_true rfl⟩

theorem ofInstr_of_isOne {i : Instr} {m : Mnemonic} (h : isOne i [m]) :
    Rule.ofInstr i = ruleOf m i.descriptor.mode (operandWord i) := by
  rw [Rule.ofInstr, List.mem_singleton.mp h]

/-! ### Z and N (10_state.md R21) -/

/-- `SetZN` as a statement about the value of the result. -/
theorem setZN_eq_withZN (p : Status) (r : Byte) : p.setZN r = withZN p r := by
  have hz : (r == 0) = decide (r.toNat = 0) := by simp [← BitVec.toNat_inj, beq_eq_decide]
  have hn : r.getLsbD 7 = decide (128 ≤ r.toNat) := r.msb_eq_getLsbD_last.symm.trans r.msb_eq_decide
  rw [Status.setZN, hz, hn, withZN]

/-! ### The end of an instruction (30_encoding.md R47, 70_reset_and_hazards.md R159) -/

/-- After a rule that left P.I, whether the instruction delays the poll makes no difference. -/
theorem retire_eq_of_keeps {d : Descriptor} {iBefore crossed : Bool} {u : State} (hi : u.p.i = iBefore) :
    retire d iBefore crossed 0 u =
      { u with
        iPoll := iBefore
        cycles := u.cycles + (d.baseCycles + if d.pageCrossCycle = true ∧ crossed = true then 1 else 0) } := by
  simp [retire, hi]

/-! ### Instructions that read an operand (40_addressing.md R71) -/

theorem readOperand_eq_operandOf (f : ReadForm) (s : State) : readOperand f s = operandOf f s := by
  cases f with
  | imm v => rfl
  | mem form => exact readOperand_memory form s

/-- An instruction with a rule for its operand does what the rule does, and nothing else. -/
theorem readsAndDoes_of_rule {i : Instr} {s : State} {act result : Byte → State → State}
    (hrule : Rule.ofInstr i = .read act)
    (hkeeps : ∀ m t, (act m t).p.i = t.p.i ∧ (act m t).cycles = t.cycles)
    (hresult : ∀ f m, act m (readOperand f s).state = result m (readOperand f s).state) : ReadsAndDoes i s result := by
  have hrun := run_ofInstr i s
  rw [hrule] at hrun
  obtain ⟨f, hf, hexec⟩ := Option.map_eq_some_iff.mp hrun
  obtain ⟨hi, hcycles⟩ := hkeeps (readOperand f s).value (readOperand f s).state
  rw [readOperand_p] at hi
  rw [readOperand_cycles] at hcycles
  refine ⟨encoded_self i, f, hf, ?_⟩
  rw [← hexec, readClass, retire_eq_of_keeps hi, hcycles, hresult, readOperand_eq_operandOf, readCycles]

/-- Settles O13: the rules of the three loads are `SetZN` of the operand and a register, and the operand read leaves P. -/
theorem loadsCompleteWithOperand : Obligations.LoadsCompleteWithOperand := by
  refine ⟨readOperand_imm, readOperand_memory, fun i s => ⟨fun h => ?_, fun h => ?_, fun h => ?_⟩⟩
  · exact readsAndDoes_of_rule (ofInstr_of_isOne h) (fun _ _ => ⟨rfl, rfl⟩) fun f m => by
      rw [loadA, State.setA, readOperand_p, setZN_eq_withZN]
  · exact readsAndDoes_of_rule (ofInstr_of_isOne h) (fun _ _ => ⟨rfl, rfl⟩) fun f m => by
      rw [loadX, State.setX, readOperand_p, setZN_eq_withZN]
  · exact readsAndDoes_of_rule (ofInstr_of_isOne h) (fun _ _ => ⟨rfl, rfl⟩) fun f m => by
      rw [loadY, State.setY, readOperand_p, setZN_eq_withZN]

/-! ### Instructions that store a register (R75 to R77) -/

/-- No row of a mnemonic that writes memory has the page-crossing cycle (40_addressing.md R70). -/
theorem pageCrossCycle_of_stores {i : Instr} {m : Mnemonic} (h : isOne i [m])
    (hm : m ∈ [.STA, .STX, .STY, .INC, .DEC, .ASL, .LSR, .ROL, .ROR]) : i.descriptor.pageCrossCycle = false := by
  rw [← List.mem_singleton.mp h] at hm
  revert hm
  exact of_decide_eq_true (by cases i <;> rfl)

/-- A store is one bus write of its register, and the base cycles. -/
theorem storesByte_of_rule {i : Instr} {s : State} {value : State → Byte} (hrule : Rule.ofInstr i = .store value)
    (hcross : i.descriptor.pageCrossCycle = false) : StoresByte i s (value s) := by
  have hrun := run_ofInstr i s
  rw [hrule] at hrun
  obtain ⟨f, hf, hexec⟩ := Option.map_eq_some_iff.mp hrun
  refine ⟨encoded_self i, f, hf, ?_⟩
  rw [← hexec, storeClass_eq, retire_eq_of_keeps (by rw [memWrite_p])]
  simp [hcross]

/-- Settles O14: the rule of each store is its register. -/
theorem storesCompleteWithRegister : Obligations.StoresCompleteWithRegister := fun _ _ =>
  ⟨fun h => storesByte_of_rule (ofInstr_of_isOne h) (pageCrossCycle_of_stores h (by decide)),
    fun h => storesByte_of_rule (ofInstr_of_isOne h) (pageCrossCycle_of_stores h (by decide)),
    fun h => storesByte_of_rule (ofInstr_of_isOne h) (pageCrossCycle_of_stores h (by decide))⟩

/-! ### Implied instructions (40_addressing.md R57) -/

/-- An implied instruction whose rule leaves P.I and the counter does what the rule does, and spends its base cycles. -/
theorem exec_implied {i : Instr} {s : State} {act : State → State} (hrule : Rule.ofInstr i = .implied act)
    (hi : (act s).p.i = s.p.i) (hcycles : (act s).cycles = s.cycles) :
    exec i s = .next { act s with iPoll := s.p.i, cycles := s.cycles + i.descriptor.baseCycles } := by
  rw [exec_of_run hrule rfl, impliedClass, retire_eq_of_keeps hi, hcycles]
  simp

/-- Settles O15: each transfer's rule is its register's update, with `SetZN` but for TXS. -/
theorem transfersCopyRegisters : Obligations.TransfersCopyRegisters := by
  refine ⟨⟨encoded_self .tax, encoded_self .tay, encoded_self .txa, encoded_self .tya, encoded_self .tsx,
    encoded_self .txs⟩, fun s => ?_⟩
  simp only [← setZN_eq_withZN]
  -- each is elaborated before it meets the goal, so that the rule's update is the one of `Rule.ofInstr`
  exact ⟨(exec_implied (i := .tax) rfl rfl rfl :), (exec_implied (i := .tay) rfl rfl rfl :),
    (exec_implied (i := .txa) rfl rfl rfl :), (exec_implied (i := .tya) rfl rfl rfl :),
    (exec_implied (i := .tsx) rfl rfl rfl :), (exec_implied (i := .txs) rfl rfl rfl :)⟩

end Sys2Proof.Machine
end

section
/-! PROOFS of family 42_arith_logic.md: the exact next state of arithmetic, logic, compare and increment. The one idea is
that each flag computation of the model is one of integers (`addWithCarry_eq`, `subWithBorrow_eq`, `Status.compare_eq`,
`Status.bitTest_eq`); what an instruction does with it is then said by its class (`readsAndDoes_of_rule`,
`modifiesOperand_of_rule`, `exec_implied`). -/

namespace Sys2Proof.Machine
open Claims

/-! ### Sums and differences (42_arith_logic.md R84 to R86) -/

/-- What the mask 0x80 of the overflow formula looks at. -/
theorem and_signMask_bne_zero (x : Byte) : (x &&& 0x80 != 0) = x.msb := by
  have hmask : x &&& 0x80 = if x.getLsbD 7 then 0x80 else 0 := BitVec.and_twoPow x 7
  rw [hmask, x.msb_eq_getLsbD_last]
  cases x.getLsbD 7 <;> rfl

/-- R85's rule for V, inputs of one sign and a result of the other, is that the signed sum leaves the byte's range. -/
theorem signsDiffer_eq_signedOverflow (a m : Byte) (c : Bool) :
    let r := byteOf (a.toNat + m.toNat + c.toNat)
    let signed := a.toInt + m.toInt + c.toNat
    ((a.msb ^^ r.msb) && (m.msb ^^ r.msb)) = decide (signed < -128 ∨ 127 < signed) := by
  have ha := a.isLt
  have hm := m.isLt
  have hc := c.toNat_le
  simp only [BitVec.msb_eq_decide, BitVec.toInt_eq_toNat_cond, BitVec.toNat_ofNat]
  rw [Bool.eq_iff_iff]
  simp only [Bool.and_eq_true, bne_iff_ne, ne_eq, decide_eq_decide, decide_eq_true_eq]
  omega

/-- ADC's sum in integers: modulo 256, the unsigned carry, and the signed overflow. -/
theorem addWithCarry_eq (a m : Byte) (c : Bool) :
    addWithCarry a m c =
      (let sum := a.toNat + m.toNat + c.toNat
       let signed := a.toInt + m.toInt + c.toNat
       ⟨byteOf sum, decide (255 < sum), decide (signed < -128 ∨ 127 < signed)⟩) := by
  simp only [addWithCarry, and_signMask_bne_zero, BitVec.msb_and, BitVec.msb_xor, signsDiffer_eq_signedOverflow]

/-- The complement that SBC adds (R86). -/
theorem xor_ones_eq_not (m : Byte) : m ^^^ 0xFF = ~~~m := BitVec.xor_allOnes

/-- As a signed number the complement of M is -1 - M. -/
theorem toInt_complement (m : Byte) : (m ^^^ 0xFF).toInt = -1 - m.toInt := by
  have hm := m.isLt
  rw [xor_ones_eq_not, BitVec.toInt_eq_toNat_cond, BitVec.toInt_eq_toNat_cond, BitVec.toNat_not]
  omega

/-- SBC's sum is its difference plus 256 (R86). -/
theorem sum_complement (a m : Byte) (c : Bool) :
    ((a.toNat + (m ^^^ 0xFF).toNat + c.toNat : Nat) : Int) = a.toNat - m.toNat - (1 - c.toNat) + 256 := by
  have hm := m.isLt
  rw [xor_ones_eq_not, BitVec.toNat_not]
  omega

/-- SBC's difference in integers: modulo 256, no borrow, and the signed overflow. -/
theorem subWithBorrow_eq (a m : Byte) (c : Bool) :
    subWithBorrow a m c =
      (let borrow : Int := 1 - c.toNat
       let diff : Int := a.toNat - m.toNat - borrow
       let signed := a.toInt - m.toInt - borrow
       ⟨BitVec.ofInt 8 diff, decide (0 ≤ diff), decide (signed < -128 ∨ 127 < signed)⟩) := by
  have hsum := sum_complement a m c
  rw [subWithBorrow, addWithCarry_eq, toInt_complement]
  simp only [Sum.mk.injEq, decide_eq_decide]
  refine ⟨?value, ?noBorrow, ?overflow⟩
  case value =>
    rw [byteOf, ← BitVec.ofInt_natCast, hsum, BitVec.ofInt_add]
    exact BitVec.add_zero _
  case noBorrow => omega
  case overflow => omega

/-! ### The flags of the rules -/

theorem Status.ofSum_eq (p : Status) (s : Sum) :
    p.ofSum s = withZN { p with c := s.carry, v := s.overflow } s.value := setZN_eq_withZN ..

theorem beq_zero_eq_decide (r : Byte) : (r == 0) = decide (r.toNat = 0) :=
  congrArg Status.z (setZN_eq_withZN ⟨false, false, false, false, false, false⟩ r)

/-- A byte's sign (R21). -/
theorem getLsbD_seven_eq_decide (r : Byte) : r.getLsbD 7 = decide (128 ≤ r.toNat) :=
  congrArg Status.n (setZN_eq_withZN ⟨false, false, false, false, false, false⟩ r)

/-- A comparison is of unsigned numbers (R90 to R92). -/
theorem Status.compare_eq (p : Status) (r m : Byte) :
    p.compare r m =
      { p with
        c := decide (m.toNat ≤ r.toNat)
        z := decide (r = m)
        n := decide (128 ≤ (r.toNat + 256 - m.toNat) % 256) } := by
  have hz : (r - m == 0) = decide (r = m) := by rw [beq_eq_decide, decide_eq_decide]; exact sub_eq_zero
  have hdiff : (r - m).toNat = (r.toNat + 256 - m.toNat) % 256 := by rw [BitVec.toNat_sub]; omega
  rw [Status.compare, Status.setZN, hz, getLsbD_seven_eq_decide, hdiff]

/-- BIT's flags, by the value of the operand (R93). -/
theorem Status.bitTest_eq (p : Status) (a m : Byte) :
    p.bitTest a m =
      { p with
        z := decide ((a &&& m).toNat = 0)
        n := decide (128 ≤ m.toNat)
        v := decide (64 ≤ m.toNat % 128) } := by
  have hv : m.getLsbD 6 = decide (64 ≤ m.toNat % 128) := by
    rw [← BitVec.testBit_toNat, Nat.testBit_eq_decide_div_mod_eq, decide_eq_decide]; omega
  rw [Status.bitTest, beq_zero_eq_decide, getLsbD_seven_eq_decide, hv]

/-! ### Instructions that read an operand -/

/-- Settles O16: ADC's rule is the integer sum of A, its operand and C. -/
theorem addWithCarryIsBinary : Obligations.AddWithCarryIsBinary := fun _ _ h =>
  readsAndDoes_of_rule (ofInstr_of_isOne h) (fun _ _ => ⟨rfl, rfl⟩) fun f m => by
    simp only [adcA, readOperand_a, readOperand_p, addWithCarry_eq, Status.ofSum_eq]

/-- Settles O17: SBC's rule is the integer difference of A, its operand and the borrow. -/
theorem subtractWithBorrowIsBinary : Obligations.SubtractWithBorrowIsBinary := fun _ _ h =>
  readsAndDoes_of_rule (ofInstr_of_isOne h) (fun _ _ => ⟨rfl, rfl⟩) fun f m => by
    simp only [sbcA, readOperand_a, readOperand_p, subWithBorrow_eq, Status.ofSum_eq]

/-- A rule that combines A with the operand does so with the A and the P of before: the operand read leaves both. -/
theorem readsAndDoes_of_setA {i : Instr} {s : State} (combine : Byte → Byte → Byte)
    (hrule : Rule.ofInstr i = .read fun m s => s.setA (combine s.a m)) :
    ReadsAndDoes i s fun m t => { t with a := combine s.a m, p := withZN s.p (combine s.a m) } :=
  readsAndDoes_of_rule hrule (fun _ _ => ⟨rfl, rfl⟩) fun f m => by
    rw [State.setA, readOperand_a, readOperand_p, setZN_eq_withZN]

/-- Settles O18: the rules of the three are `SetZN` of A combined with the operand. -/
theorem logicCombinesOperandWithA : Obligations.LogicCombinesOperandWithA := fun _ _ =>
  ⟨fun h => readsAndDoes_of_setA (· &&& ·) (ofInstr_of_isOne h),
    fun h => readsAndDoes_of_setA (· ||| ·) (ofInstr_of_isOne h),
    fun h => readsAndDoes_of_setA (· ^^^ ·) (ofInstr_of_isOne h)⟩

/-- A rule that compares a register does so with the register of before, which the operand read leaves. -/
theorem readsAndDoes_of_compare {i : Instr} {s : State} (reg : State → Byte)
    (hrule : Rule.ofInstr i = .read fun m s => { s with p := s.p.compare (reg s) m })
    (hreg : ∀ f, reg (readOperand f s).state = reg s) :
    ReadsAndDoes i s fun m t => { t with p := s.p.compare (reg s) m } :=
  readsAndDoes_of_rule hrule (fun _ _ => ⟨rfl, rfl⟩) fun f m => by rw [hreg, readOperand_p]

/-- Settles O19: the rules of the three compare A, X and Y. -/
theorem compareIsUnsigned : Obligations.CompareIsUnsigned := by
  intro i s
  simp only [← Status.compare_eq]
  exact ⟨fun h => readsAndDoes_of_compare State.a (ofInstr_of_isOne h) fun f => readOperand_a f s,
    fun h => readsAndDoes_of_compare State.x (ofInstr_of_isOne h) fun f => readOperand_x f s,
    fun h => readsAndDoes_of_compare State.y (ofInstr_of_isOne h) fun f => readOperand_y f s⟩

/-- Settles O20: BIT's rule is its flag computation. -/
theorem bitTestTakesFlagsFromOperand : Obligations.BitTestTakesFlagsFromOperand := fun _ _ h =>
  readsAndDoes_of_rule (ofInstr_of_isOne h) (fun _ _ => ⟨rfl, rfl⟩) fun f m => by
    rw [bitA, readOperand_a, readOperand_p, Status.bitTest_eq]

/-! ### Instructions that modify a byte of memory (40_addressing.md R71) -/

/-- The form of an instruction's address is its form as one that modifies: a memory mode is not the accumulator mode. -/
theorem modifyFormOf_of_addrFormOf {i : Instr} {f : AddrForm} (h : addrFormOf i = some f) :
    modifyFormOf i = some (.mem f) := by
  have hread : readFormOf i = some (.mem f) := by
    unfold addrFormOf at h
    split at h
    · cases h
      assumption
    · cases h
  have hmode : i.descriptor.mode ≠ .acc := fun hacc => by
    rw [readFormOf, hacc] at hread
    cases hread
  -- `hmode` is the side condition of the match's second equation, which `simp` finds in the context
  simp [modifyFormOf, hread]

/-- A read-modify-write of memory reads and writes one byte, and spends the base cycles. -/
theorem modifiesOperand_of_rule {i : Instr} {s : State} {op : Byte → Status → Modified}
    (hrule : Rule.ofInstr i = .modify op) (hcross : i.descriptor.pageCrossCycle = false)
    (hi : ∀ m, (op m s.p).status.i = s.p.i) :
    ModifiesOperand i s (fun m => (op m s.p).value) fun m => (op m s.p).status := by
  have hrun := run_ofInstr i s
  rw [hrule] at hrun
  obtain ⟨f, hf, hexec⟩ := Option.map_eq_some_iff.mp hrun
  refine ⟨encoded_self i, .inr ⟨f, modifyFormOf_of_addrFormOf hf, ?_⟩⟩
  simp only [← hexec, modifyClass_mem]
  rw [retire_eq_of_keeps (hi _)]
  simp [hcross]

theorem add_one_eq_byteOf (m : Byte) : m + 1 = byteOf (m.toNat + 1) := BitVec.add_def m 1

/-- Minus one is plus 255 modulo 256. -/
theorem sub_one_eq_byteOf (m : Byte) : m - 1 = byteOf (m.toNat + 255) := by
  rw [Nat.add_comm]
  exact BitVec.sub_def m 1

theorem increment_eq (m : Byte) (p : Status) :
    increment m p = ⟨byteOf (m.toNat + 1), withZN p (byteOf (m.toNat + 1))⟩ := by
  rw [increment, setZN_eq_withZN, add_one_eq_byteOf]

theorem decrement_eq (m : Byte) (p : Status) :
    decrement m p = ⟨byteOf (m.toNat + 255), withZN p (byteOf (m.toNat + 255))⟩ := by
  rw [decrement, setZN_eq_withZN, sub_one_eq_byteOf]

/-- Settles O21: the rules of the two are sums modulo 256, and no row of theirs has the page-crossing cycle. -/
theorem incrementAndDecrementMemory : Obligations.IncrementAndDecrementMemory := by
  refine fun i s => ⟨fun h => ?_, fun h => ?_⟩
  · have := modifiesOperand_of_rule (s := s) (ofInstr_of_isOne h) (pageCrossCycle_of_stores h (by decide)) fun _ => rfl
    simpa only [increment_eq] using this
  · have := modifiesOperand_of_rule (s := s) (ofInstr_of_isOne h) (pageCrossCycle_of_stores h (by decide)) fun _ => rfl
    simpa only [decrement_eq] using this

/-! ### Implied instructions -/

/-- Settles O22: the rule of each is `SetZN` of its register plus or minus one. -/
theorem incrementAndDecrementIndex : Obligations.IncrementAndDecrementIndex := by
  refine ⟨⟨encoded_self .inx, encoded_self .iny, encoded_self .dex, encoded_self .dey⟩, fun s => ?_⟩
  simp only [← setZN_eq_withZN, ← add_one_eq_byteOf, ← sub_one_eq_byteOf]
  exact ⟨(exec_implied (i := .inx) rfl rfl rfl :), (exec_implied (i := .iny) rfl rfl rfl :),
    (exec_implied (i := .dex) rfl rfl rfl :), (exec_implied (i := .dey) rfl rfl rfl :)⟩

end Sys2Proof.Machine
end

section
/-! PROOFS of family 43_shift_rotate.md: the exact next state of the shifts and rotates. The one idea is that each shift is
an arithmetic of its operand, where the old C takes the place the shift leaves free (`shiftLeft_eq`, `shiftRight_eq`,
`rotateLeft_eq`, `rotateRight_eq`); on A it is an implied rule and on memory a read-modify-write (`modifiesOperand_of_shift`). -/

namespace Sys2Proof.Machine
open Claims

/-! ### The value and the bit shifted out, in numbers -/

theorem shifted_eq (value : Byte) (out : Bool) (p : Status) :
    shifted value out p = ⟨value, withZN { p with c := out } value⟩ := by
  rw [shifted, setZN_eq_withZN]

/-- A byte's lowest bit is its parity. -/
theorem getLsbD_zero_eq_decide (m : Byte) : m.getLsbD 0 = decide (m.toNat % 2 = 1) := Nat.testBit_zero m.toNat

/-- A left shift of the byte is one of the number, modulo 256. -/
theorem shiftLeft_eq_byteOf (m : Byte) (k : Nat) : m <<< k = byteOf (m.toNat <<< k) := rfl

theorem shiftRight_eq_byteOf (m : Byte) (k : Nat) : m >>> k = byteOf (m.toNat >>> k) := by
  rw [byteOf, ← BitVec.toNat_ushiftRight, BitVec.ofNat_toNat, BitVec.setWidth_eq]

/-- The old C takes the bit that a left shift leaves free (R102). -/
theorem shiftLeft_or_carry (m : Byte) (c : Bool) :
    (m <<< 1) ||| BitVec.ofNat 8 c.toNat = byteOf (2 * m.toNat + c.toNat) := by
  rw [shiftLeft_eq_byteOf, byteOf, ← BitVec.ofNat_or, ← Nat.shiftLeft_add_eq_or_of_lt c.toNat_lt, Nat.shiftLeft_eq,
    Nat.mul_comm, Nat.pow_one]

/-- The old C takes the bit that a right shift leaves free (R103). -/
theorem shiftRight_or_carry (m : Byte) (c : Bool) :
    (m >>> 1) ||| (BitVec.ofNat 8 c.toNat <<< 7) = byteOf (m.toNat / 2 + 128 * c.toNat) := by
  have hm : m.toNat >>> 1 < 2 ^ 7 := by
    have := m.isLt
    rw [Nat.shiftRight_eq_div_pow]
    omega
  have hc : (BitVec.ofNat 8 c.toNat).toNat = c.toNat := by cases c <;> rfl
  rw [shiftRight_eq_byteOf, shiftLeft_eq_byteOf, hc, byteOf, byteOf, ← BitVec.ofNat_or, Nat.or_comm,
    ← Nat.shiftLeft_add_eq_or_of_lt hm, Nat.add_comm, Nat.shiftLeft_eq, Nat.shiftRight_eq_div_pow, Nat.mul_comm c.toNat]

theorem shiftLeft_eq (m : Byte) (p : Status) :
    shiftLeft m p =
      ⟨byteOf (2 * m.toNat), withZN { p with c := decide (128 ≤ m.toNat) } (byteOf (2 * m.toNat))⟩ := by
  rw [shiftLeft, shifted_eq, getLsbD_seven_eq_decide, shiftLeft_eq_byteOf, Nat.shiftLeft_eq, Nat.mul_comm, Nat.pow_one]

theorem shiftRight_eq (m : Byte) (p : Status) :
    shiftRight m p =
      ⟨byteOf (m.toNat / 2), withZN { p with c := decide (m.toNat % 2 = 1) } (byteOf (m.toNat / 2))⟩ := by
  rw [shiftRight, shifted_eq, getLsbD_zero_eq_decide, shiftRight_eq_byteOf, Nat.shiftRight_eq_div_pow, Nat.pow_one]

theorem rotateLeft_eq (m : Byte) (p : Status) :
    rotateLeft m p =
      ⟨byteOf (2 * m.toNat + p.c.toNat),
        withZN { p with c := decide (128 ≤ m.toNat) } (byteOf (2 * m.toNat + p.c.toNat))⟩ := by
  rw [rotateLeft, shifted_eq, getLsbD_seven_eq_decide, shiftLeft_or_carry]

theorem rotateRight_eq (m : Byte) (p : Status) :
    rotateRight m p =
      ⟨byteOf (m.toNat / 2 + 128 * p.c.toNat),
        withZN { p with c := decide (m.toNat % 2 = 1) } (byteOf (m.toNat / 2 + 128 * p.c.toNat))⟩ := by
  rw [rotateRight, shifted_eq, getLsbD_zero_eq_decide, shiftRight_or_carry]

/-! ### Instructions that shift A or a byte of memory -/

/-- A shift completes on A (40_addressing.md R58) as an implied instruction and on memory as a read-modify-write. -/
theorem modifiesOperand_of_shiftRule {i : Instr} {s : State} {op : Byte → Status → Modified}
    (hrule : Rule.ofInstr i = shiftRule i.descriptor.mode op) (hcross : i.descriptor.pageCrossCycle = false)
    (hi : ∀ m, (op m s.p).status.i = s.p.i) :
    ModifiesOperand i s (fun m => (op m s.p).value) fun m => (op m s.p).status := by
  rw [shiftRule] at hrule
  by_cases hmode : i.descriptor.mode = .acc
  · rw [if_pos hmode] at hrule
    have hform : modifyFormOf i = some .acc := by rw [modifyFormOf, hmode]
    exact ⟨encoded_self i, .inl ⟨hform, exec_implied hrule (hi s.a) rfl⟩⟩
  · rw [if_neg hmode] at hrule
    exact modifiesOperand_of_rule hrule hcross hi

/-- A shift whose value and bit shifted out are given for the P of before sets C, Z and N by them. -/
theorem modifiesOperand_of_shift {i : Instr} {s : State} {op : Byte → Status → Modified} {value : Byte → Byte}
    {out : Byte → Bool} (hrule : Rule.ofInstr i = shiftRule i.descriptor.mode op)
    (hcross : i.descriptor.pageCrossCycle = false)
    (hop : ∀ m, op m s.p = ⟨value m, withZN { s.p with c := out m } (value m)⟩) :
    ModifiesOperand i s value fun m => withZN { s.p with c := out m } (value m) := by
  have := modifiesOperand_of_shiftRule (s := s) hrule hcross fun m => by rw [hop]; rfl
  simpa only [hop] using this

/-- Settles O23: the rules of the four are shifts in numbers, and no row of theirs has the page-crossing cycle. -/
theorem shiftsAndRotatesByOneBit : Obligations.ShiftsAndRotatesByOneBit := fun _ s =>
  ⟨fun h => modifiesOperand_of_shift (ofInstr_of_isOne h) (pageCrossCycle_of_stores h (by decide)) (shiftLeft_eq · s.p),
    fun h => modifiesOperand_of_shift (ofInstr_of_isOne h) (pageCrossCycle_of_stores h (by decide)) (shiftRight_eq · s.p),
    fun h => modifiesOperand_of_shift (ofInstr_of_isOne h) (pageCrossCycle_of_stores h (by decide)) (rotateLeft_eq · s.p),
    fun h => modifiesOperand_of_shift (ofInstr_of_isOne h) (pageCrossCycle_of_stores h (by decide)) (rotateRight_eq · s.p)⟩

end Sys2Proof.Machine
end

section
/-! PROOFS of family 44_stack.md: what the stack engine stores and gives back, and what the instructions that push and pull
change. The one idea is that every push of the core, of one byte or of many, is a list of bytes put one by one below SP
(`pushBytes`): the bytes of the list are then in the stack bytes from SP down and no other byte changed, whatever was
pushed and wherever SP wraps (`pushBytes_read_pushed`, `pushBytes_read_other`). -/

namespace Sys2Proof.Machine
open Claims

/-! ### The stack bytes around SP (44_stack.md R104 to R106) -/

theorem stackBelow_zero (s : State) : stackBelow s 0 = 0x100 + s.sp.toNat := by
  have := s.sp.isLt
  rw [stackBelow]
  omega

theorem stackAbove_one (s : State) : stackAbove s 1 = 0x100 + (s.sp + 1).toNat := by
  rw [stackAbove, BitVec.toNat_add]
  rfl

theorem stackAbove_two (s : State) : stackAbove s 2 = 0x100 + (s.sp + 1 + 1).toNat := by
  rw [BitVec.add_assoc, stackAbove, BitVec.toNat_add]
  rfl

/-- Every stack byte lies in page 1. -/
theorem stackBelow_mem_page (s : State) (k : Nat) : 0x100 ≤ stackBelow s k ∧ stackBelow s k ≤ 0x1FF := by
  rw [stackBelow]
  omega

/-- Below the byte SP designates there are 255 others. -/
theorem stackBelow_succ_ne {s : State} {k : Nat} (h : k < 255) : stackBelow s (k + 1) ≠ stackBelow s 0 := by
  have := s.sp.isLt
  rw [stackBelow, stackBelow]
  omega

/-- From `n` below, the bytes above SP are those from the old SP down. -/
theorem stackAbove_eq_stackBelow {s t : State} {n k : Nat} (hsp : t.sp = s.sp - BitVec.ofNat 8 n) (hn : n ≤ 256)
    (hk : k ≤ n) : stackAbove t k = stackBelow s (n - k) := by
  rw [stackAbove, stackBelow, hsp, BitVec.toNat_sub, BitVec.toNat_ofNat]
  omega

/-! ### One byte (R105 to R107) -/

@[simp] theorem push_sp (v : Byte) (s : State) : (push v s).sp = s.sp - 1 := by rw [push_eq]

@[simp] theorem push_p (v : Byte) (s : State) : (push v s).p = s.p := by rw [push_eq]

theorem push_mem (v : Byte) (s : State) : (push v s).mem = s.mem.write (stackBelow s 0) v := by
  rw [push_eq, stackBelow_zero]

/-- A push stores its byte in the stack byte SP designates. -/
theorem push_read_pushed (v : Byte) (s : State) : (push v s).mem.read (stackBelow s 0) = v := by
  rw [push_mem, Memory.read_write_same]

theorem push_read_other (v : Byte) {s : State} {j : Nat} (h : j ≠ stackBelow s 0) :
    (push v s).mem.read j = s.mem.read j := by
  rw [push_mem, Memory.read_write_other _ h]

theorem stackBelow_push (v : Byte) (s : State) {k : Nat} (h : k < 256) : stackBelow (push v s) k = stackBelow s (k + 1) := by
  have := s.sp.isLt
  have hsp : (push v s).sp.toNat = (255 + s.sp.toNat) % 256 := by rw [push_sp, BitVec.toNat_sub]; rfl
  rw [stackBelow, stackBelow, hsp]
  omega

/-- A pull loads the stack byte above SP. -/
theorem pull_eq_stackAbove (s : State) : pull s = ⟨s.mem.read (stackAbove s 1), { s with sp := s.sp + 1 }⟩ := by
  rw [pull_eq, stackAbove_one]

theorem pullWord_eq_stackAbove (s : State) :
    pullWord s = ⟨makeWord (s.mem.read (stackAbove s 1)) (s.mem.read (stackAbove s 2)), { s with sp := s.sp + 2 }⟩ := by
  rw [pullWord_eq, stackAbove_one, stackAbove_two, BitVec.add_assoc]
  rfl

/-- A pull undoes a push, but for the byte that stays behind in the store. -/
theorem pull_push (v : Byte) (s : State) : pull (push v s) = ⟨v, { push v s with sp := s.sp }⟩ := by
  have habove : stackAbove (push v s) 1 = stackBelow s 0 := stackAbove_eq_stackBelow (n := 1) (push_sp v s) (by decide) le_rfl
  rw [pull_eq_stackAbove, habove, push_read_pushed, push_sp, BitVec.sub_add_cancel]

/-! ### Many bytes (R107, R108) -/

/-- The bytes of the list pushed one by one, the first one first. -/
def pushBytes (vs : List Byte) (s : State) : State := vs.foldl (fun t v => push v t) s

theorem pushBytes_cons (v : Byte) (vs : List Byte) (s : State) : pushBytes (v :: vs) s = pushBytes vs (push v s) := rfl

theorem pushBytes_sp (vs : List Byte) (s : State) : (pushBytes vs s).sp = s.sp - BitVec.ofNat 8 vs.length := by
  induction vs generalizing s with
  | nil => exact (BitVec.sub_zero s.sp).symm
  | cons v rest ih =>
    rw [pushBytes_cons, ih, push_sp, List.length_cons, BitVec.ofNat_add, sub_sub, add_comm]
    rfl

/-- Up to 256 pushes change only the stack bytes from SP down. -/
theorem pushBytes_read_other {vs : List Byte} {s : State} {j : Nat} (hlen : vs.length ≤ 256)
    (hj : ∀ k, k < vs.length → j ≠ stackBelow s k) : (pushBytes vs s).mem.read j = s.mem.read j := by
  induction vs generalizing s with
  | nil => rfl
  | cons v rest ih =>
    rw [List.length_cons] at hlen hj
    have hrest : ∀ k, k < rest.length → j ≠ stackBelow (push v s) k := fun k hk => by
      rw [stackBelow_push v s (by omega)]
      exact hj (k + 1) (by omega)
    rw [pushBytes_cons, ih (by omega) hrest, push_read_other v (hj 0 (by omega))]

/-- Up to 256 pushed bytes stand in the stack bytes from SP down. -/
theorem pushBytes_read_pushed {vs : List Byte} {s : State} (hlen : vs.length ≤ 256) {k : Nat} (hk : k < vs.length) :
    (pushBytes vs s).mem.read (stackBelow s k) = vs[k] := by
  induction vs generalizing s k with
  | nil => cases hk
  | cons v rest ih =>
    rw [List.length_cons] at hlen hk
    cases k with
    | zero =>
      have hrest : ∀ k, k < rest.length → stackBelow s 0 ≠ stackBelow (push v s) k := fun k hk => by
        rw [stackBelow_push v s (by omega)]
        exact (stackBelow_succ_ne (by omega)).symm
      rw [pushBytes_cons, pushBytes_read_other (by omega) hrest, push_read_pushed, List.getElem_cons_zero]
    | succ k =>
      rw [pushBytes_cons, ← stackBelow_push v s (by omega), List.getElem_cons_succ]
      exact ih (by omega) (by omega)

/-- Settles O24: SP moves modulo 256, and the bytes pushed are all in page 1. -/
theorem stackEngineLaws : Obligations.StackEngineLaws := by
  refine ⟨fun s v => ?pullPush, fun s vs hlen => ⟨?fullCircle, fun j hj => ?insidePage⟩, fun s v hsp => ?pushWraps,
    fun s hsp => ?pullWraps⟩
  case pullPush =>
    rw [pull_push]
    exact ⟨rfl, rfl⟩
  case fullCircle =>
    have hsp := pushBytes_sp vs s
    rw [hlen] at hsp
    exact hsp.trans (BitVec.sub_zero s.sp)
  case insidePage => exact pushBytes_read_other hlen.le fun k _ hk => hj (hk ▸ stackBelow_mem_page s k)
  case pushWraps =>
    have hslot : stackBelow s 0 = 0x100 := by rw [stackBelow_zero, hsp]; rfl
    rw [push_sp, hsp, ← hslot]
    exact ⟨rfl, push_read_pushed v s, fun j => push_read_other v⟩
  case pullWraps =>
    rw [pull_eq, hsp]
    rfl

/-- Pushing a word changes SP and the store. -/
theorem pushWord_frame (w : Word) (s : State) :
    pushWord w s = { s with sp := s.sp - 2, mem := (pushWord w s).mem } := by
  rw [pushWord_eq, sub_sub]
  rfl

theorem pushWord_read_high (w : Word) (s : State) : (pushWord w s).mem.read (stackBelow s 0) = hiByte w :=
  pushBytes_read_pushed (vs := [hiByte w, loByte w]) (k := 0) (by simp) (by simp)

theorem pushWord_read_low (w : Word) (s : State) : (pushWord w s).mem.read (stackBelow s 1) = loByte w :=
  pushBytes_read_pushed (vs := [hiByte w, loByte w]) (k := 1) (by simp) (by simp)

theorem pushWord_read_other (w : Word) {s : State} {j : Nat} (h0 : j ≠ stackBelow s 0) (h1 : j ≠ stackBelow s 1) :
    (pushWord w s).mem.read j = s.mem.read j :=
  (push_read_other _ (by rwa [stackBelow_push _ s (by decide)])).trans (push_read_other _ h0)

/-- Settles O25: a word is two pushed bytes, and the two above the new SP are the same ones, in the other order. -/
theorem wordsArePushedHighByteFirst : Obligations.WordsArePushedHighByteFirst := by
  refine ⟨fun s w => ⟨pushWord_frame w s, pushWord_read_high w s, pushWord_read_low w s, fun j => pushWord_read_other w⟩,
    pullWord_eq_stackAbove, fun s w => ?_⟩
  have hsp : (pushWord w s).sp = s.sp - 2 := pushBytes_sp [hiByte w, loByte w] s
  have hlow : stackAbove (pushWord w s) 1 = stackBelow s 1 := stackAbove_eq_stackBelow hsp (by decide) (by decide)
  have hhigh : stackAbove (pushWord w s) 2 = stackBelow s 0 := stackAbove_eq_stackBelow hsp (by decide) (by decide)
  rw [pullWord_eq_stackAbove, hlow, hhigh, pushWord_read_low, pushWord_read_high, makeWord_loByte_hiByte, hsp]
  exact ⟨rfl, BitVec.sub_add_cancel s.sp 2⟩

/-! ### PHA and PHP (R109, R110) -/

/-- An instruction whose rule is to push a byte stores that byte, moves SP, and spends its base cycles. -/
theorem exec_push {i : Instr} {s : State} {act : State → State} {v : Byte} (hrule : Rule.ofInstr i = .implied act)
    (hact : act s = push v s) :
    ∃ t, exec i s = .next t ∧
      t = { s with sp := s.sp - 1, mem := t.mem, iPoll := s.p.i, cycles := s.cycles + i.descriptor.baseCycles } ∧
      t.mem.read (stackBelow s 0) = v ∧ ∀ j, j ≠ stackBelow s 0 → t.mem.read j = s.mem.read j := by
  refine ⟨_, exec_implied hrule (by rw [hact, push_p]) (by rw [hact, push_cycles]), ?frame, ?pushed, fun j hj => ?other⟩
  case frame => rw [hact, push_eq]
  case pushed => rw [hact, push_read_pushed]
  case other => rw [hact, push_read_other v hj]

/-- Settles O26: the rule of each is the push of its byte. -/
theorem pushInstructionsStoreOneByte : Obligations.PushInstructionsStoreOneByte :=
  ⟨⟨encoded_self .pha, encoded_self .php⟩, fun _ => ⟨exec_push (i := .pha) rfl rfl, exec_push (i := .php) rfl rfl⟩⟩

/-! ### PLA and PLP (R111, R112) -/

/-- A byte loaded into P loses its bits 4 and 5, which then read 0 and 1 (10_state.md R18). -/
theorem Status.toByte_ofByte : ∀ v : Byte, (Status.ofByte v).toByte = (v &&& 0xCF) ||| 0x20 := by decide

theorem pullA_eq (s : State) :
    pullA s =
      { s with sp := s.sp + 1, a := s.mem.read (stackAbove s 1), p := withZN s.p (s.mem.read (stackAbove s 1)) } := by
  rw [pullA, pull_eq_stackAbove, State.setA, setZN_eq_withZN]

theorem pullP_eq (s : State) :
    pullP s = { s with sp := s.sp + 1, p := Status.ofByte (s.mem.read (stackAbove s 1)) } := by
  rw [pullP, pull_eq_stackAbove]

/-- PLP ends with the poll mask at the I of before (60_exceptions.md R141). -/
theorem exec_plp (s : State) : exec .plp s = .next { pullP s with iPoll := s.p.i, cycles := s.cycles + 4 } := by
  rw [← pullP_cycles s]
  rfl

/-- Settles O27: the rule of each is the pull of a byte, which PLP loads into P without bits 4 and 5. -/
theorem pullInstructionsLoadOneByte : Obligations.PullInstructionsLoadOneByte := by
  refine ⟨⟨encoded_self .pla, encoded_self .plp⟩, fun s => ⟨?pla, _, exec_plp s, ?plpStatus, ?plpFrame⟩⟩
  case pla =>
    have hexec := exec_implied (i := .pla) (s := s) rfl (by rw [pullA_eq]; rfl) (pullA_cycles s)
    rwa [pullA_eq] at hexec
  case plpStatus => rw [pullP_eq, Status.toByte_ofByte]
  case plpFrame => rw [pullP_eq]

/-! ### What the pushing instructions change (R105, R108, R114, R134) -/

/-- What a push of the bytes `vs` leaves in the store and in the registers, wherever PC, P and the host's deliveries went. -/
def PushesBytes (vs : List Byte) (s t : State) : Prop :=
  t.a = s.a ∧ t.x = s.x ∧ t.y = s.y ∧ t.sp = (pushBytes vs s).sp ∧ t.mem = (pushBytes vs s).mem

theorem pushesBytes_push (v : Byte) (s : State) : PushesBytes [v] s (push v s) := by
  simp [PushesBytes, pushBytes, push_eq]

theorem pushesBytes_jumpSubroutine (w : Word) (s : State) :
    PushesBytes [hiByte s.pc, loByte s.pc] s (jumpSubroutine w s) := by
  simp [PushesBytes, pushBytes, jumpSubroutine, fetch, pushWord_eq, push_eq]

theorem pushesBytes_softwareBreak (s : State) :
    PushesBytes [hiByte (s.pc + 1), loByte (s.pc + 1), s.p.pushedByInstr] s (softwareBreak s) := by
  simp [PushesBytes, pushBytes, softwareBreak, enterHandler_mem, push_eq]

/-- The rule of a pushing mnemonic, and how many bytes it pushes. -/
theorem ruleOf_pushes {m : Mnemonic} {n : Nat}
    (h : m ∈ [.PHA, .PHP] ∧ n = 1 ∨ m ∈ [.JSR] ∧ n = 2 ∨ m ∈ [.BRK] ∧ n = 3) (mode : Mode) (w : Word) :
    ∃ act, ruleOf m mode w = .implied act ∧ ∀ s, ∃ vs, vs.length = n ∧ PushesBytes vs s (act s) := by
  obtain ⟨hm, rfl⟩ | ⟨hm, rfl⟩ | ⟨hm, rfl⟩ := h
  · fin_cases hm
    · exact ⟨_, rfl, fun s => ⟨_, rfl, pushesBytes_push s.a s⟩⟩
    · exact ⟨_, rfl, fun s => ⟨_, rfl, pushesBytes_push s.p.pushedByInstr s⟩⟩
  · cases List.mem_singleton.mp hm
    exact ⟨_, rfl, fun s => ⟨_, rfl, pushesBytes_jumpSubroutine w s⟩⟩
  · cases List.mem_singleton.mp hm
    exact ⟨_, rfl, fun s => ⟨_, rfl, pushesBytes_softwareBreak s⟩⟩

/-- Settles O55: a pushing instruction is the push of its one, two or three bytes. -/
theorem pushingInstructionsChangeStackBytesOnly : Obligations.PushingInstructionsChangeStackBytesOnly := by
  intro i s t n h hexec
  obtain ⟨act, hrule, hpushes⟩ := ruleOf_pushes h i.descriptor.mode (operandWord i)
  obtain ⟨vs, rfl, ha, hx, hy, hsp, hmem⟩ := hpushes s
  rw [exec_of_run hrule rfl] at hexec
  cases hexec
  refine ⟨ha, hx, hy, hsp.trans (pushBytes_sp vs s), fun j hj => ?_⟩
  rw [retire_mem, hmem, pushBytes_read_other (by omega) hj]

end Sys2Proof.Machine
end

section
/-! PROOFS of family 45_control.md: the exact next state of jumps, JSR, RTS and the branches. The one idea is that JSR is a
pushed word and then one bus read at PC (`exec_jsr`), so that what becomes of its target and of its return address is what
the stack laws of 44_stack.md say of `pushWord`; a branch is a move of PC and the row's cycles (`branch_eq`). -/

namespace Sys2Proof.Machine
open Claims

/-! ### JSR (45_control.md R114) -/

@[simp] theorem pushWord_pc (w : Word) (s : State) : (pushWord w s).pc = s.pc := by rw [pushWord_frame]

@[simp] theorem pushWord_p (w : Word) (s : State) : (pushWord w s).p = s.p := by rw [pushWord_frame]

theorem jumpSubroutine_eq (target : Word) (s : State) :
    jumpSubroutine target s =
      { (memRead s.pc (pushWord s.pc s)).state with
        pc := makeWord (loByte target) (memRead s.pc (pushWord s.pc s)).value } := by
  rw [jumpSubroutine, fetch, pushWord_pc]

/-- All a JSR does: the return address is pushed, and then the high target byte is read at PC. -/
theorem exec_jsr (target : Word) (s : State) :
    exec (.jsr target) s = .next
      { (memRead s.pc (pushWord s.pc s)).state with
        pc := makeWord (loByte target) (memRead s.pc (pushWord s.pc s)).value
        iPoll := s.p.i
        cycles := s.cycles + 6 } := by
  have hflags : (jumpSubroutine target s).p = s.p := by rw [jumpSubroutine_eq, memRead_p, pushWord_p]
  have hexec := exec_implied (i := .jsr target) rfl (congrArg Status.i hflags) (jumpSubroutine_cycles target s)
  rwa [jumpSubroutine_eq] at hexec

/-- Settles O29 (log entry 7 for the third byte): the fetch stops at JSR's third byte, which `exec_jsr` reads. -/
theorem callPushesPcThenFetchesHighByte : Obligations.CallPushesPcThenFetchesHighByte := by
  refine ⟨fun s hrun hpoll => ?fetched, fun s target => ⟨pushWord s.pc s, _, pushWord_frame s.pc s,
    pushWord_read_high s.pc s, pushWord_read_low s.pc s, fun j => pushWord_read_other s.pc, exec_jsr target s, rfl⟩⟩
  intro op ll hop
  refine ⟨_, loByte_makeWord _ _, encoded_self (.jsr _), ?pc, step_of_fetchInstr hrun hpoll (fetchInstr_jsr hop)⟩
  rw [fetch_pc, fetch_pc, BitVec.add_assoc]
  rfl

/-- Settles O30: the pushes leave the byte at PC, so the word read is the encoded target. -/
theorem callReachesEncodedTarget : Obligations.CallReachesEncodedTarget := by
  intro s target hstore hbyte h0 h1
  have hquiet : (pushWord s.pc s).hostAnswers s.pc = false := by
    rwa [hostAnswers_congr (congrArg State.config (pushWord_frame s.pc s))]
  have hpeek : (pushWord s.pc s).peek s.pc = hiByte target := (pushWord_read_other s.pc h0 h1).trans hbyte
  refine ⟨_, exec_jsr target s, ?_⟩
  rw [memRead_quiet hquiet, hpeek, makeWord_loByte_hiByte]

/-! ### RTS (R115) -/

theorem returnFromSubroutine_eq (s : State) :
    returnFromSubroutine s =
      { s with
        sp := s.sp + 2
        pc := makeWord (s.mem.read (stackAbove s 1)) (s.mem.read (stackAbove s 2)) + 1 } := by
  rw [returnFromSubroutine, pullWord_eq_stackAbove]

/-- All an RTS does: the word above SP, plus one, is the new PC. -/
theorem exec_rts (s : State) :
    exec .rts s = .next
      { s with
        sp := s.sp + 2
        pc := makeWord (s.mem.read (stackAbove s 1)) (s.mem.read (stackAbove s 2)) + 1
        iPoll := s.p.i
        cycles := s.cycles + 6 } := by
  have hexec := exec_implied (i := .rts) rfl (by rw [returnFromSubroutine_eq]) (returnFromSubroutine_cycles s)
  rwa [returnFromSubroutine_eq] at hexec

/-- Settles O31: the pulled word is its two bytes, low byte first. -/
theorem returnGoesToPulledWordPlusOne : Obligations.ReturnGoesToPulledWordPlusOne := by
  refine ⟨encoded_self .rts, fun s => ⟨_, exec_rts s, ?_, rfl⟩⟩
  rw [BitVec.toNat_add, makeWord_toNat]
  rfl

/-- Settles O32: the two bytes above the SP that JSR left are those of the word it pushed. -/
theorem callThenReturnComesBack : Obligations.CallThenReturnComesBack := by
  intro s t u target hcall husp hhigh hlow
  rw [exec_jsr] at hcall
  cases hcall
  simp only [memRead_sp, memRead_mem] at husp hhigh hlow
  rw [pushWord_read_high] at hhigh
  rw [pushWord_read_low] at hlow
  have hsp : u.sp = s.sp - 2 := husp.trans (congrArg State.sp (pushWord_frame s.pc s))
  have habove1 : stackAbove u 1 = stackBelow s 1 := stackAbove_eq_stackBelow hsp (by decide) (by decide)
  have habove2 : stackAbove u 2 = stackBelow s 0 := stackAbove_eq_stackBelow hsp (by decide) (by decide)
  refine ⟨_, exec_rts u, ?pc, ?sp⟩
  case pc => rw [habove1, habove2, hlow, hhigh, makeWord_loByte_hiByte]
  case sp => rw [hsp, BitVec.sub_add_cancel]

/-! ### Branches (R116 to R124) -/

/-- The sum of words is the sum of the unsigned PC and the signed displacement, modulo 65536 (40_addressing.md R69). -/
theorem branchTarget_eq_ofInt (disp : Byte) (s : State) :
    branchTarget disp s = BitVec.ofInt 16 (s.pc.toNat + disp.toInt) := by
  rw [BitVec.ofInt_add, BitVec.ofInt_natCast, BitVec.ofNat_toNat, BitVec.setWidth_eq]
  rfl

/-- All a branch does: PC, if it is taken, and the cycles of its row with those of R116. -/
theorem branch_eq {d : Descriptor} (hpage : d.pageCrossCycle = false) (disp : Byte) (taken : Bool) (s : State) :
    branch d disp taken s = .next
      { s with
        pc := if taken = true then branchTarget disp s else s.pc
        iPoll := s.p.i
        cycles := s.cycles + d.baseCycles +
          if taken = true then (if s.pc.toNat / 256 = (branchTarget disp s).toNat / 256 then 1 else 2) else 0 } := by
  cases taken with
  | false => simp [branch, retire, hpage]
  | true => simp [branch, retire, hpage, crossesPage_iff, Nat.add_assoc]

/-- A branch instruction tests its condition, and its row has two cycles and no page-crossing cycle. -/
theorem exec_of_branchOf {i : Instr} {s : State} {m : Mnemonic} {disp : Byte} {taken : Bool}
    (h : branchOf s.p i = some (m, disp, taken)) :
    i.descriptor.mnemonic = m ∧ i.descriptor.baseCycles = 2 ∧ i.descriptor.pageCrossCycle = false ∧
      exec i s = branch i.descriptor disp taken s := by
  unfold branchOf at h
  split at h <;> cases h <;> exact ⟨rfl, rfl, rfl, rfl⟩

/-- Settles O33: each branch is `branch` of its condition. -/
theorem branchesFollowTheirFlag : Obligations.BranchesFollowTheirFlag := by
  intro i s m disp taken h
  obtain ⟨rfl, hbase, hpage, hexec⟩ := exec_of_branchOf h
  refine ⟨encoded_self i, ?_⟩
  rw [hexec, branch_eq hpage, hbase, branchTarget_eq_ofInt]

/-! ### JMP (R113) -/

/-- The second byte of JMP's pointer is read at the next address of the first one's page (40_addressing.md R66). -/
theorem pointerNext_eq_ofNat (w : Word) :
    (w &&& 0xFF00) ||| ((w + 1) &&& 0x00FF) = BitVec.ofNat 16 (w.toNat / 256 * 256 + (w.toNat + 1) % 256) := by
  have hpage : (w &&& 0xFF00).toNat = (w.toNat / 256) <<< 8 := by
    have hw := w.isLt
    have hmask : (0xFF00 : Word) = BitVec.allOnes 16 <<< 8 := rfl
    rw [hmask, ← BitVec.shiftLeft_ushiftRight, BitVec.toNat_shiftLeft, BitVec.toNat_ushiftRight, Nat.shiftRight_eq_div_pow, Nat.shiftLeft_eq]
    omega
  have hoffset : ((w + 1) &&& 0x00FF).toNat = (w.toNat + 1) % 256 := by
    have hmask : ((w + 1) &&& 0x00FF).toNat = (w + 1).toNat % 256 := Nat.and_two_pow_sub_one_eq_mod (w + 1).toNat 8
    rw [hmask, BitVec.toNat_add]
    exact Nat.mod_mod_of_dvd _ (by decide)
  apply BitVec.eq_of_toNat_eq
  rw [BitVec.toNat_or, hpage, hoffset, ← Nat.shiftLeft_add_eq_or_of_lt (Nat.mod_lt _ (by decide)), Nat.shiftLeft_eq,
    BitVec.toNat_ofNat]
  omega

theorem jumpIndirect_p (ptr : Word) (s : State) : (jumpIndirect ptr s).p = s.p := by
  simp [jumpIndirect, resolveIndirect]

/-- Settles O28: JMP's rule is its operand, or the word read at its pointer. -/
theorem jumpsLoadPc : Obligations.JumpsLoadPc := by
  intro s w
  refine ⟨encoded_self (.jmpAbs w), encoded_self (.jmpInd w), exec_implied (i := .jmpAbs w) rfl rfl rfl, _,
    makeWord_toNat _ _, ?_⟩
  rw [← pointerNext_eq_ofNat]
  exact exec_implied (i := .jmpInd w) rfl (congrArg Status.i (jumpIndirect_p w s)) (jumpIndirect_cycles w s)

end Sys2Proof.Machine
end

section
/-! PROOFS of family 46_flags_system.md: the exact next state of the flag instructions, NOP, BRK and RTI. The one idea is
that these are the instructions whose rule may change P.I, so that their end has two readings (60_exceptions.md R141): the
poll mask is the I of before where the poll is delayed or the rule left I (`exec_flags`), and the new I at once after BRK
and RTI (`exec_undelayed`). -/

namespace Sys2Proof.Machine
open Claims

/-! ### Flag instructions and NOP (46_flags_system.md R126 to R133) -/

/-- What clearing or setting one flag makes of P as a byte. -/
theorem Status.toByte_setFlag (p : Status) :
    { p with c := false }.toByte = p.toByte &&& 0xFE ∧ { p with d := false }.toByte = p.toByte &&& 0xF7 ∧
      { p with i := false }.toByte = p.toByte &&& 0xFB ∧ { p with v := false }.toByte = p.toByte &&& 0xBF ∧
      { p with c := true }.toByte = p.toByte ||| 0x01 ∧ { p with d := true }.toByte = p.toByte ||| 0x08 ∧
      { p with i := true }.toByte = p.toByte ||| 0x04 := by
  obtain ⟨c, z, i, d, v, n⟩ := p
  revert c z i d v n
  decide

/-- An instruction whose rule is a change of flags that the next poll does not see changes them, keeps the poll mask at
the I of before, and spends its base cycles. -/
theorem exec_flags {i : Instr} {s : State} {f : Status → Status} {v : Byte}
    (hrule : Rule.ofInstr i = .implied fun s => { s with p := f s.p })
    (hpoll : delaysPoll i.descriptor.mnemonic = true ∨ (f s.p).i = s.p.i) (hbyte : (f s.p).toByte = v) :
    ∃ t, exec i s = .next t ∧ t.p.toByte = v ∧
      t = { s with p := t.p, iPoll := s.p.i, cycles := s.cycles + i.descriptor.baseCycles } := by
  refine ⟨_, exec_of_run hrule rfl, hbyte, ?_⟩
  rcases hpoll with hdelays | hkeeps
  · simp [retire, hdelays]
  · simp [retire, hkeeps]

/-- Settles O34: each rule sets one flag, or none; CLI and SEI, which change I, delay the poll. -/
theorem flagInstructionsChangeOneBit : Obligations.FlagInstructionsChangeOneBit := by
  refine ⟨⟨encoded_self .clc, encoded_self .cld, encoded_self .cli, encoded_self .clv, encoded_self .sec,
    encoded_self .sed, encoded_self .sei, encoded_self .nop⟩, fun s => ?_⟩
  obtain ⟨hclc, hcld, hcli, hclv, hsec, hsed, hsei⟩ := s.p.toByte_setFlag
  exact ⟨exec_flags (i := .clc) (f := fun p => { p with c := false }) rfl (.inr rfl) hclc,
    exec_flags (i := .cld) (f := fun p => { p with d := false }) rfl (.inr rfl) hcld,
    exec_flags (i := .cli) (f := fun p => { p with i := false }) rfl (.inl rfl) hcli,
    exec_flags (i := .clv) (f := fun p => { p with v := false }) rfl (.inr rfl) hclv,
    exec_flags (i := .sec) (f := fun p => { p with c := true }) rfl (.inr rfl) hsec,
    exec_flags (i := .sed) (f := fun p => { p with d := true }) rfl (.inr rfl) hsed,
    exec_flags (i := .sei) (f := fun p => { p with i := true }) rfl (.inl rfl) hsei,
    exec_flags (i := .nop) (f := id) rfl (.inr rfl) rfl⟩

/-! ### Instructions whose new I is the poll mask at once (60_exceptions.md R141) -/

/-- An implied instruction that does not delay the poll ends with the poll mask at its own P.I. -/
theorem exec_undelayed {i : Instr} {s : State} {act : State → State} (hrule : Rule.ofInstr i = .implied act)
    (hpoll : delaysPoll i.descriptor.mnemonic = false) (hcycles : (act s).cycles = s.cycles) :
    exec i s = .next { act s with iPoll := (act s).p.i, cycles := s.cycles + i.descriptor.baseCycles } := by
  rw [exec_of_run hrule rfl, impliedClass, retire, hpoll, hcycles]
  simp

/-! ### Entering a handler (R134, 60_exceptions.md R143) -/

/-- The state in which the vector is read: PC and the status byte on the stack, I set. -/
def handlerPushed (status : Byte) (s : State) : State :=
  { push status (pushWord s.pc s) with p := { s.p with i := true } }

theorem handlerPushed_mem (status : Byte) (s : State) :
    (handlerPushed status s).mem = (pushBytes [hiByte s.pc, loByte s.pc, status] s).mem := rfl

theorem handlerPushed_frame (status : Byte) (s : State) :
    handlerPushed status s =
      { s with sp := s.sp - 3, p := { s.p with i := true }, mem := (handlerPushed status s).mem } := by
  rw [handlerPushed, push_eq, pushWord_frame, sub_sub]
  rfl

/-- Entering a handler reads the vector after the pushes. -/
theorem enterHandler_eq_readWord (status : Byte) (vector : Word) (s : State) :
    enterHandler status vector s =
      { (readWord vector (vector + 1) (handlerPushed status s)).state with
        pc := (readWord vector (vector + 1) (handlerPushed status s)).value
        skipPoll := true } := by
  rw [enterHandler, push_p, pushWord_p, handlerPushed]

/-- `enterHandler` enters a handler, but for the poll it makes the next step skip. -/
theorem entersHandler_enterHandler (status : Byte) (vector : Word) (s : State) :
    EntersHandler s.pc status vector s { enterHandler status vector s with skipPoll := s.skipPoll } := by
  have hpushed : ∀ k (hk : k < 3), (handlerPushed status s).mem.read (stackBelow s k) =
      [hiByte s.pc, loByte s.pc, status][k] := fun k hk => by
    rw [handlerPushed_mem]
    exact pushBytes_read_pushed (by simp) hk
  refine ⟨handlerPushed status s, handlerPushed_frame status s, hpushed 0 (by decide), hpushed 1 (by decide),
    hpushed 2 (by decide), fun j h0 h1 h2 => ?others, ?vector⟩
  case others =>
    rw [handlerPushed_mem]
    refine pushBytes_read_other (by simp) fun k hk => ?_
    match k, hk with
    | 0, _ => exact h0
    | 1, _ => exact h1
    | 2, _ => exact h2
  case vector =>
    have hskip : (handlerPushed status s).skipPoll = s.skipPoll := by rw [handlerPushed_frame]
    rw [enterHandler_eq_readWord, ← hskip, ← readWord_skipPoll vector (vector + 1) (handlerPushed status s)]
    rfl

/-! ### BRK (R134) -/

/-- All a BRK does besides its rule: the poll mask is set, and seven cycles. -/
theorem exec_brk (s : State) :
    exec .brk s = .next { softwareBreak s with iPoll := true, cycles := s.cycles + 7 } := by
  have hmask : (softwareBreak s).p.i = true := by rw [softwareBreak, enterHandler_p]
  rw [exec_undelayed (i := .brk) rfl rfl (softwareBreak_cycles s), hmask]
  rfl

/-- Settles O35 (log entry 13 for the skipped poll): BRK's rule is `enterHandler` from PC past the padding byte. -/
theorem breakEntersIrqHandler : Obligations.BreakEntersIrqHandler :=
  ⟨encoded_self .brk, fun s =>
    ⟨_, _, exec_brk s, entersHandler_enterHandler s.p.pushedByInstr irqVector { s with pc := s.pc + 1 }, rfl⟩⟩

/-! ### RTI (R135) -/

theorem stackAbove_three (s : State) : stackAbove s 3 = 0x100 + (s.sp + 1 + 1 + 1).toNat := by
  rw [BitVec.add_assoc, BitVec.add_assoc, stackAbove, BitVec.toNat_add]
  rfl

theorem returnFromHandler_eq_stackAbove (s : State) :
    returnFromHandler s =
      { s with
        sp := s.sp + 3
        p := Status.ofByte (s.mem.read (stackAbove s 1))
        pc := makeWord (s.mem.read (stackAbove s 2)) (s.mem.read (stackAbove s 3)) } := by
  rw [returnFromHandler_eq, stackAbove_one, stackAbove_two, stackAbove_three, BitVec.add_assoc, BitVec.add_assoc]
  rfl

/-- Settles O36: RTI's rule is P and PC from the three bytes above SP, and it does not delay the poll. -/
theorem returnFromInterruptRestoresPAndPc : Obligations.ReturnFromInterruptRestoresPAndPc := by
  refine ⟨encoded_self .rti, fun s =>
    ⟨_, exec_undelayed (i := .rti) rfl rfl (returnFromHandler_cycles s), ?status, ?pc, ?frame⟩⟩
  case status => rw [returnFromHandler_eq_stackAbove, Status.toByte_ofByte]
  case pc => rw [returnFromHandler_eq_stackAbove, makeWord_toNat]
  case frame => rw [returnFromHandler_eq_stackAbove]; rfl

end Sys2Proof.Machine
end

section
/-! PROOFS of families 60_exceptions.md and 70_reset_and_hazards.md: interrupts, the fatal fault, reset, and what every
session keeps. The one idea is that a session is made of events whose effects are each said once: what a step leaves,
whatever its outcome (`afterStep_cases`), what an event leaves in a halted core (`Event.apply_of_halted`), and that an
event keeps the invariant and the parameters (`Event.apply_inv`). One induction (`runEvents_induction`) carries that to
every session. -/

namespace Sys2Proof.Machine
open Claims

/-! ### Steps and sessions (30_encoding.md R47, 60_exceptions.md R138, R151) -/

theorem step_of_halted {s : State} {record : FatalRecord} (h : s.halted = some record) :
    step s = .fault (.halted record) := by
  rw [step, h]

theorem step_of_poll {s : State} {kind : Interrupt} (hrun : s.halted = none) (hpoll : pollInterrupt s = some kind) :
    step s = .next (interruptEntry kind s) := by
  rw [step, hrun, hpoll]

theorem afterStep_of_fatalOpcode {s : State} {record : FatalRecord} (h : step s = .fault (.fatalOpcode record)) :
    afterStep s = haltWith record s := by
  rw [afterStep, h]

theorem afterStep_of_halted {s : State} {record : FatalRecord} (h : s.halted = some record) : afterStep s = s := by
  rw [afterStep, step_of_halted h]

/-- All that can stand after a step: its next state, the halted core, or what stood before. -/
theorem afterStep_cases (s : State) :
    step s = .next (afterStep s) ∨
      (∃ record, step s = .fault (.fatalOpcode record) ∧ afterStep s = haltWith record s) ∨
      afterStep s = s := by
  unfold afterStep
  split
  · exact .inl ‹_›
  · exact .inr (.inl ⟨_, ‹_›, rfl⟩)
  · exact .inr (.inr rfl)
  · exact .inr (.inr rfl)

/-- What every event of a session keeps, the session keeps. -/
theorem runEvents_induction {P : State → Prop} {events : List Event} (hkeeps : ∀ e ∈ events, ∀ s, P s → P (e.apply s))
    {s : State} (hs : P s) : P (runEvents events s) := by
  induction events generalizing s with
  | nil => exact hs
  | cons e rest ih =>
    obtain ⟨he, hrest⟩ := List.forall_mem_cons.mp hkeeps
    exact ih hrest (he s hs)

/-! ### Interrupt entry (R143) -/

theorem interruptEntry_eq (kind : Interrupt) (s : State) :
    interruptEntry kind s =
      { enterHandler s.p.pushedByInterrupt kind.vector s with
        nmiPending := if kind = .nmi then false else s.nmiPending
        iPoll := true
        cycles := s.cycles + 7 } := by
  rw [interruptEntry, enterHandler_nmiPending, enterHandler_cycles]

theorem interruptEntry_nmiPending (kind : Interrupt) (s : State) :
    (interruptEntry kind s).nmiPending = if kind = .nmi then false else s.nmiPending := by
  rw [interruptEntry_eq]

theorem interruptEntry_skipPoll (kind : Interrupt) (s : State) : (interruptEntry kind s).skipPoll = true := by
  simp [interruptEntry]

theorem interruptEntry_config (kind : Interrupt) (s : State) : (interruptEntry kind s).config = s.config := by
  simp [interruptEntry]

/-- The vector of each kind (R144). -/
theorem Interrupt.vector_eq (kind : Interrupt) : kind.vector = if kind = .nmi then 0xFFFA else 0xFFFE := by
  cases kind <;> rfl

/-- Settles O38: an interrupt entry is `enterHandler` and the hidden bits. -/
theorem interruptEntrySavesPcAndP : Obligations.InterruptEntrySavesPcAndP := by
  intro kind s
  rw [← kind.vector_eq, interruptEntry_eq]
  refine ⟨_, entersHandler_enterHandler s.p.pushedByInterrupt kind.vector s, ?_⟩
  rw [← enterHandler_skipPoll s.p.pushedByInterrupt kind.vector s]

/-! ### The poll (R141, R142) -/

theorem pollInterrupt_nmi {s : State} (hskip : s.skipPoll = false) (hnmi : s.nmiPending = true) :
    pollInterrupt s = some .nmi := by
  simp [pollInterrupt, hskip, hnmi]

theorem pollInterrupt_irq {s : State} (hskip : s.skipPoll = false) (hnmi : s.nmiPending = false) (hirq : s.irq = true)
    (hmask : s.iPoll = false) : pollInterrupt s = some .irq := by
  simp [pollInterrupt, hskip, hnmi, hirq, hmask]

/-- A step that does not poll runs an instruction, with the skip bit clear again. -/
theorem step_of_skipPoll {s f : State} {i : Instr} (hrun : s.halted = none) (hskip : s.skipPoll = true)
    (hfetch : fetchInstr { s with skipPoll := false } = .instr i f) : step s = exec i f ∧ f.skipPoll = false := by
  refine ⟨step_of_fetchInstr hrun ((pollInterrupt_eq_none s).mpr (.inl hskip)) hfetch, ?_⟩
  obtain ⟨_, _, _, rfl⟩ := fetchInstr_frame hfetch
  rfl

/-- Settles O39 (log entry 13 for BRK): each poll is a case of `pollInterrupt`, and both ways into a handler set the skip
bit, which the host's NMI and IRQ leave. -/
theorem pollTakesNmiBeforeUnmaskedIrq : Obligations.PollTakesNmiBeforeUnmaskedIrq := by
  refine ⟨fun s hrun => ⟨fun hskip hnmi => ?nmi, fun hskip hnmi hirq hmask => ?irq, fun hquiet i f hfetch => ?instr⟩,
    fun kind s level nmi i f hrun => ?entered, fun s u level nmi i f hrun hexec => ?broke⟩
  case nmi => exact step_of_poll hrun (pollInterrupt_nmi hskip hnmi)
  case irq => exact step_of_poll hrun (pollInterrupt_irq hskip hnmi hirq hmask)
  case instr => exact step_of_fetchInstr hrun ((pollInterrupt_eq_none s).mpr hquiet) hfetch
  case entered =>
    intro t hfetch
    exact step_of_skipPoll ((interruptEntry_halted kind s).trans hrun) (interruptEntry_skipPoll kind s) hfetch
  case broke =>
    intro t hfetch
    obtain ⟨-, hskip, hhalted, -⟩ := hiddenStateFrame .brk s u hexec
    exact step_of_skipPoll (hhalted.trans hrun) hskip hfetch

theorem delaysPoll_iff (m : Mnemonic) : delaysPoll m = true ↔ m ∈ [.CLI, .SEI, .PLP] := by
  simp [delaysPoll, or_assoc]

/-- Settles O40: every instruction ends in a `retire`, which sets the poll mask. -/
theorem pollMaskAfterEveryInstruction : Obligations.PollMaskAfterEveryInstruction := by
  intro i s t hexec
  obtain ⟨crossed, extra, u, hretire, -⟩ := exec_retires i s
  cases hexec.symm.trans hretire
  simp only [retire_iPoll, retire_p, delaysPoll_iff, isOne]

/-! ### Returning from a handler (R145) -/

/-- Both bytes that an entry pushes for P load as P again: bits 4 and 5 have no storage (10_state.md R18). -/
theorem Status.ofByte_pushed (p : Status) : ofByte p.pushedByInterrupt = p ∧ ofByte p.pushedByInstr = p := by
  obtain ⟨c, z, i, d, v, n⟩ := p
  revert c z i d v n
  decide

theorem exec_rti (s : State) :
    exec .rti s = .next { returnFromHandler s with iPoll := (returnFromHandler s).p.i, cycles := s.cycles + 6 } :=
  exec_undelayed (i := .rti) rfl rfl (returnFromHandler_cycles s)

/-- RTI from a state with the SP and the three stack bytes that an entry left gives back PC, P and SP. -/
theorem exec_rti_of_entersHandler {pc vector : Word} {status : Byte} {p : Status} {s t u : State}
    (hentry : EntersHandler pc status vector s t) (hp : Status.ofByte status = p) (hsp : u.sp = t.sp)
    (hstack : ∀ k, k < 3 → u.mem.read (stackBelow s k) = t.mem.read (stackBelow s k)) :
    ∃ v, exec .rti u = .next v ∧ v.pc = pc ∧ v.p = p ∧ v.sp = s.sp ∧ v.iPoll = p.i := by
  obtain ⟨w, hw, hhigh, hlow, hstatus, -, ht⟩ := hentry
  have hmem : t.mem = w.mem := by rw [ht]; simp
  have hsp3 : u.sp = s.sp - 3 := by rw [hsp, ht]; simp [congrArg State.sp hw]
  have habove : ∀ k, k ≤ 3 → stackAbove u k = stackBelow s (3 - k) := fun k => stackAbove_eq_stackBelow hsp3 (by decide)
  refine ⟨_, exec_rti u, ?_⟩
  rw [returnFromHandler_eq_stackAbove, habove 1 (by decide), habove 2 (by decide), habove 3 (by decide),
    hstack 2 (by decide), hstack 1 (by decide), hstack 0 (by decide), hmem, hhigh, hlow, hstatus, hp]
  exact ⟨makeWord_loByte_hiByte pc, rfl, by rw [hsp3, BitVec.sub_add_cancel], rfl⟩

/-- Settles O41: both ways into a handler are `EntersHandler`, from which RTI returns. -/
theorem returnUndoesHandlerEntry : Obligations.ReturnUndoesHandlerEntry := by
  intro s u keeps
  obtain ⟨hinterrupt, hbreak⟩ := s.p.ofByte_pushed
  refine ⟨fun kind ⟨hsp, hstack⟩ => ?interrupt, fun t hexec ⟨hsp, hstack⟩ => ?brk⟩
  case interrupt =>
    obtain ⟨w, hentry, hw⟩ := interruptEntrySavesPcAndP kind s
    rw [hw] at hsp hstack
    exact exec_rti_of_entersHandler hentry hinterrupt hsp hstack
  case brk =>
    obtain ⟨-, hbrk⟩ := breakEntersIrqHandler
    obtain ⟨_, w, hexec', hentry, rfl⟩ := hbrk s
    cases hexec.symm.trans hexec'
    exact exec_rti_of_entersHandler (s := { s with pc := s.pc + 1 }) (t := w) hentry hbreak hsp hstack

/-! ### FatalOpcode (R137, R138) -/

/-- The byte a step fetches as its opcode is the one on the bus at PC, whatever the skip bit was. -/
theorem fetch_value_skipPoll (s : State) (skip : Bool) :
    (fetch { s with skipPoll := skip }).value = (memRead s.pc s).value := by
  have hhost : State.hostAnswers { s with skipPoll := skip } s.pc = s.hostAnswers s.pc := rfl
  rw [fetch, memRead_eq, memRead_eq, hhost]
  split <;> rfl

/-- A byte with a form is the opcode of some instruction. -/
theorem fetchInstr_of_form {s : State} {form : Form} (h : opcodeForm (fetch s).value = some form) :
    ∃ i f, fetchInstr s = .instr i f := by
  cases form with
  | implied i => exact ⟨_, _, fetchInstr_implied h⟩
  | byteOperand mk => exact ⟨_, _, fetchInstr_byte h⟩
  | wordOperand mk =>
    by_cases hj : (fetch s).value = jsrOpcode
    · exact ⟨_, _, fetchInstr_jsr hj⟩
    · exact ⟨_, _, fetchInstr_word h hj⟩

/-- Settles O42 (log entry 6 for the skip bit): the illegal bytes are those without a form, and every other one is fetched
as an instruction, which completes. -/
theorem illegalOpcodeIsFatal : Obligations.IllegalOpcodeIsFatal := by
  refine ⟨rfl, fun s hrun hpoll => ?_⟩
  intro op record
  have hop : (fetch { s with skipPoll := false }).value = op := fetch_value_skipPoll s false
  rw [← opcodeForm_eq_none_iff, ← hop]
  refine ⟨fun hform => ?illegal, fun hform => ?legal⟩
  case illegal =>
    have hstep : step s = .fault (.fatalOpcode record) := by
      rw [step_running hrun hpoll, fetchInstr_illegal hform, hop]
      rfl
    exact ⟨hstep, afterStep_of_fatalOpcode hstep⟩
  case legal =>
    obtain ⟨form, hform⟩ := Option.ne_none_iff_exists'.mp hform
    obtain ⟨i, f, hfetch⟩ := fetchInstr_of_form hform
    obtain ⟨t, hexec, -⟩ := everyInstructionCompletes i f
    exact ⟨t, (step_of_fetchInstr hrun hpoll hfetch).trans hexec⟩

/-- The host's write to the store changes nothing but the store. -/
theorem poke_frame (index : Nat) (v : Byte) (s : State) : poke index v s = { s with mem := (poke index v s).mem } := by
  unfold poke
  split <;> rfl

/-- In a halted core no event but a reset changes more than the NMI latch, the IRQ level and, by a write of the host's, the
store. -/
theorem Event.apply_of_halted {s : State} {record : FatalRecord} {e : Event} (h : s.halted = some record)
    (he : e ≠ .reset) :
    e.apply s = { s with nmiPending := (e.apply s).nmiPending, irq := (e.apply s).irq, mem := (e.apply s).mem } ∧
      ((∀ index v, e ≠ .poke index v) → (e.apply s).mem = s.mem) := by
  cases e with
  | step => rw [Event.apply, afterStep_of_halted h]; exact ⟨rfl, fun _ => rfl⟩
  | nmi => exact ⟨rfl, fun _ => rfl⟩
  | irq level => exact ⟨rfl, fun _ => rfl⟩
  | reset => exact absurd rfl he
  | poke index v =>
    refine ⟨?_, fun hno => absurd rfl (hno index v)⟩
    rw [Event.apply, poke_frame]

/-- What events without a reset can have left of a halted core `s`. -/
def HaltedFrame (events : List Event) (s t : State) : Prop :=
  t = { s with nmiPending := t.nmiPending, irq := t.irq, mem := t.mem } ∧
    ((∀ index v, Event.poke index v ∉ events) → t.mem = s.mem)

theorem HaltedFrame.apply {events : List Event} {s t : State} {record : FatalRecord} {e : Event}
    (h : HaltedFrame events s t) (hhalted : s.halted = some record) (he : e ∈ events) (hreset : e ≠ .reset) :
    HaltedFrame events s (e.apply t) := by
  obtain ⟨hframe, hmem⟩ := h
  obtain ⟨hframe', hmem'⟩ := Event.apply_of_halted ((congrArg State.halted hframe).trans hhalted) hreset
  exact ⟨hframe'.trans (by rw [hframe]),
    fun hno => (hmem' fun index v heq => hno index v (heq ▸ he)).trans (hmem hno)⟩

/-- Settles O43 (log entries 6 and 10): what each event leaves of a halted core, the session leaves. -/
theorem haltedUntilReset : Obligations.HaltedUntilReset := by
  refine ⟨fun s record hstep => congrArg State.halted (afterStep_of_fatalOpcode hstep),
    fun s record events hhalted hreset => ?_⟩
  have hsession : HaltedFrame events s (runEvents events s) :=
    runEvents_induction (fun e he _ h => h.apply hhalted he fun heq => hreset (heq ▸ he)) ⟨rfl, fun _ => rfl⟩
  obtain ⟨hframe, hmem⟩ := hsession
  exact ⟨step_of_halted ((congrArg State.halted hframe).trans hhalted), hframe, hmem, rfl⟩

/-! ### The NMI latch (R139) -/

/-- A poll with an NMI pending takes it, or takes nothing. -/
theorem eq_nmi_of_pollInterrupt {s : State} {kind : Interrupt} (hnmi : s.nmiPending = true)
    (hpoll : pollInterrupt s = some kind) : kind = .nmi := by
  rw [pollInterrupt, hnmi] at hpoll
  split at hpoll <;> cases hpoll
  rfl

/-- A step after which a pending NMI is pending no more has taken it. -/
theorem step_of_nmi_cleared {s : State} (hnmi : s.nmiPending = true) (hcleared : (afterStep s).nmiPending = false) :
    step s = .next (interruptEntry .nmi s) := by
  have hchanged : (afterStep s).nmiPending ≠ s.nmiPending := by rw [hnmi, hcleared]; decide
  obtain hstep | ⟨record, -, hhalt⟩ | hsame := afterStep_cases s
  · obtain ⟨-, ⟨kind, hpoll, hentry⟩ | ⟨-, i, f, hfetch, hexec⟩⟩ := step_next hstep
    · rw [hstep, hentry, eq_nmi_of_pollInterrupt hnmi hpoll]
    · obtain ⟨hkept, -⟩ := hiddenStateFrame i f _ hexec
      obtain ⟨_, _, _, rfl⟩ := fetchInstr_frame hfetch
      exact absurd hkept hchanged
  · exact absurd (by rw [hhalt, haltWith, memRead_nmiPending]) hchanged
  · exact absurd (by rw [hsame]) hchanged

/-- Settles O44: no event but those two changes a latch that is set, and the poll looks at no mask for it. -/
theorem nmiIsLatchedUntilTaken : Obligations.NmiIsLatchedUntilTaken := by
  refine ⟨fun s => ⟨rfl, rfl⟩, fun s e hnmi hcleared => ?cleared,
    fun s => ⟨interruptEntry_nmiPending .nmi s, rfl⟩,
    fun s i mask hrun hskip hnmi => step_of_poll hrun (pollInterrupt_nmi hskip hnmi)⟩
  cases e with
  | step => exact .inr ⟨rfl, step_of_nmi_cleared hnmi hcleared⟩
  | nmi => cases hcleared
  | irq level => cases hnmi.symm.trans hcleared
  | reset => exact .inl rfl
  | poke index v =>
    rw [Event.apply, poke_frame] at hcleared
    cases hnmi.symm.trans hcleared

/-! ### Reset and power-on (70_reset_and_hazards.md R152 to R155) -/

theorem entryPoint_vector {s : State} (h : s.config.resetEntry = .vector) :
    entryPoint s = readWord resetVector (resetVector + 1) s := by
  rw [entryPoint, h]

theorem entryPoint_fixed {s : State} {e : Word} (h : s.config.resetEntry = .fixed e) : entryPoint s = ⟨e, s⟩ := by
  rw [entryPoint, h]

/-- Finding the entry point reads the bus or nothing. -/
theorem Ambient.entryPoint {R : State → State → Prop} (hR : Ambient R) (s : State) : R s (entryPoint s).state := by
  cases h : s.config.resetEntry with
  | vector => rw [entryPoint_vector h]; exact hR.readWord ..
  | fixed e => rw [entryPoint_fixed h]; exact hR.refl s

theorem entryPoint_mem (s : State) : (entryPoint s).state.mem = s.mem := by
  cases h : s.config.resetEntry with
  | vector => rw [entryPoint_vector h, readWord_mem]
  | fixed e => rw [entryPoint_fixed h]

theorem hostReset_config (s : State) : (hostReset s).config = s.config :=
  StateField.config.ambient_same.entryPoint s

/-- A reset whose entry point is found without a delivery to the host. -/
theorem hostReset_of_entryPoint {s : State} {e : Word} (h : entryPoint s = ⟨e, s⟩) :
    hostReset s =
      { s with
        a := 0x00, x := 0x00, y := 0x00, sp := 0xFD, pc := e, p := Status.reset, cycles := 0
        nmiPending := false, iPoll := true, skipPoll := false, halted := none } := by
  rw [hostReset, h]

/-- Settles O56 (log entries 4 and 9): a reset is its entry point, which the bus gives or the parameter, and constants. -/
theorem resetSetsDefaults : Obligations.ResetSetsDefaults := by
  intro s t
  refine ⟨(rfl : Status.reset.toByte = 0x24), rfl, rfl, rfl, rfl, rfl, rfl, rfl, rfl, rfl, entryPoint_mem s,
    hostReset_config s, fun hvector => ?vector, fun e hfixed => ?fixed⟩
  case vector =>
    have hentry := entryPoint_vector hvector
    intro lo hi
    exact ⟨(congrArg (fun r => r.value.toNat) hentry).trans (makeWord_toNat lo.value hi.value),
      congrArg (fun r => r.state.extLog) hentry⟩
  case fixed =>
    have hentry := entryPoint_fixed hfixed
    exact ⟨congrArg Read.value hentry, congrArg (fun r => r.state.extLog) hentry⟩

/-- Settles O57 (log entries 1 and 2): with EXT_BUS = flat the vector is read in the image, and the read leaves the state. -/
theorem powerOnStartsAtResetVector : Obligations.PowerOnStartsAtResetVector := by
  intro image
  have hentry : entryPoint { State.reset with mem := image } =
      ⟨makeWord (image.read 0xFFFC) (image.read 0xFFFD), { State.reset with mem := image }⟩ := by
    rw [entryPoint_vector rfl]
    exact readWord_quiet (hostAnswers_flat rfl _) (hostAnswers_flat rfl _)
  exact hostReset_of_entryPoint hentry

/-- Settles O58 (log entry 4 for the deliveries): nothing is stored, skipped or delivered yet. -/
theorem resetMeetsInvariant : Obligations.ResetMeetsInvariant :=
  ⟨⟨reset_mem_wf, fun hskip => Bool.noConfusion hskip, rfl⟩, rfl⟩

/-! ### Sessions (60_exceptions.md R151) -/

theorem State.Inv.storeOk {s : State} (h : s.Inv) : StoreOk s := ⟨h.memCanonical, h.readsDelivered⟩

theorem hostReset_inv {s : State} (h : StoreOk s) : (hostReset s).Inv := by
  obtain ⟨hmem, hreads⟩ := keepsStore_ambient.entryPoint s h
  exact ⟨hmem, fun hskip => Bool.noConfusion hskip, hreads⟩

theorem haltWith_inv {s : State} (h : StoreOk s) (record : FatalRecord) : (haltWith record s).Inv := by
  obtain ⟨hmem, hreads⟩ := keepsStore_ambient.read s.pc s h
  exact ⟨hmem, fun hskip => Bool.noConfusion hskip, hreads⟩

theorem poke_wf {s : State} (h : s.mem.wf = true) (index : Nat) (v : Byte) : (poke index v s).mem.wf = true := by
  unfold poke
  split
  · exact Memory.write_wf h ‹_› v
  · exact h

theorem step_config {s t : State} (h : step s = .next t) : t.config = s.config := by
  obtain ⟨-, ⟨kind, -, rfl⟩ | ⟨-, i, f, hfetch, hexec⟩⟩ := step_next h
  · exact interruptEntry_config kind s
  · obtain ⟨-, -, -, -, hkept⟩ := hiddenStateFrame i f t hexec
    obtain ⟨_, _, _, rfl⟩ := fetchInstr_frame hfetch
    exact hkept

/-- What stands after a step, whatever its outcome, meets the invariant with the same parameters. -/
theorem afterStep_inv {s : State} (h : s.Inv) : (afterStep s).Inv ∧ (afterStep s).config = s.config := by
  obtain hstep | ⟨record, -, hhalt⟩ | hsame := afterStep_cases s
  · obtain ⟨hinv, -⟩ := everyStepKeepsInvariant s _ h hstep
    exact ⟨hinv, step_config hstep⟩
  · rw [hhalt]
    exact ⟨haltWith_inv h.storeOk record, memRead_config s.pc s⟩
  · rw [hsame]
    exact ⟨h, rfl⟩

theorem Event.apply_inv {s : State} (e : Event) (h : s.Inv) : (e.apply s).Inv ∧ (e.apply s).config = s.config := by
  cases e with
  | step => exact afterStep_inv h
  | nmi | irq level => exact ⟨⟨h.memCanonical, h.maskedAfterEntry, h.readsDelivered⟩, rfl⟩
  | reset => exact ⟨hostReset_inv h.storeOk, hostReset_config s⟩
  | poke index v =>
    have hmem := poke_wf h.memCanonical index v
    rw [Event.apply, poke_frame]
    exact ⟨⟨hmem, h.maskedAfterEntry, h.readsDelivered⟩, rfl⟩

theorem powerOn_inv (config : Config) {image : Memory} (h : image.wf = true) :
    (powerOn config image).Inv ∧ (powerOn config image).config = config :=
  ⟨hostReset_inv ⟨h, rfl⟩, hostReset_config _⟩

/-- Settles O60 (log entries 1, 4, 6, 9 and 10): a power-on meets the invariant, and the events keep it one by one. -/
theorem everySessionKeepsInvariant : Obligations.EverySessionKeepsInvariant :=
  ⟨fun _ e h => e.apply_inv h, fun config _ himage => powerOn_inv config himage,
    fun config _ _ himage =>
      runEvents_induction (P := fun t => t.Inv ∧ t.config = config)
        (fun e _ _ ⟨hinv, hconfig⟩ =>
          have ⟨hinv', hconfig'⟩ := e.apply_inv hinv
          ⟨hinv', hconfig'.trans hconfig⟩)
        (powerOn_inv config himage)⟩

/-! ### The cycle table (70_reset_and_hazards.md R160) -/

/-- The row of the instruction that an opcode byte announces, whatever its operand bytes. -/
def rowOfOpcode (op : Byte) : Option Descriptor := (decode [op, 0, 0]).toOption.map fun d => d.1.descriptor

/-- The rows of the sixteen opcodes whose high hexadecimal digit is `hi`. -/
def rowsOfDigit (hi : Nat) : List Descriptor :=
  (List.range' (16 * hi) 16).filterMap fun n => rowOfOpcode (BitVec.ofNat 8 n)

/-- The lines of the table, one for each high digit. -/
theorem cycleRows_eq_rowsOfDigit :
    [cycleRow0, cycleRow1, cycleRow2, cycleRow3, cycleRow4, cycleRow5, cycleRow6, cycleRow7, cycleRow8, cycleRow9,
      cycleRowA, cycleRowB, cycleRowC, cycleRowD, cycleRowE, cycleRowF] = (List.range 16).map rowsOfDigit := by
  decide

/-- The table holds the row of every byte that has one, and nothing else. -/
theorem mem_cycleTable_iff (r : Descriptor) : r ∈ cycleTable ↔ ∃ op, rowOfOpcode op = some r := by
  have htable : cycleTable = (List.range 16).flatMap rowsOfDigit := by
    rw [List.flatMap, ← cycleRows_eq_rowsOfDigit]
    simp [cycleTable]
  simp only [htable, rowsOfDigit, List.mem_flatMap, List.mem_filterMap, List.mem_range, List.mem_range'_1]
  constructor
  · rintro ⟨hi, -, n, -, hrow⟩
    exact ⟨_, hrow⟩
  · rintro ⟨op, hrow⟩
    have := op.isLt
    exact ⟨op.toNat / 16, by omega, op.toNat, by omega, by rwa [BitVec.ofNat_toNat, BitVec.setWidth_eq]⟩

theorem rowOfOpcode_descriptor (i : Instr) : rowOfOpcode i.descriptor.opcode = some i.descriptor := by
  cases i <;> rfl

/-- Settles O4: the table is the rows of the decoder's instructions, and each instruction has the row of its opcode. -/
theorem rowsAreTheCycleTable : Obligations.RowsAreTheCycleTable := by
  refine ⟨rfl, fun i => (mem_cycleTable_iff _).mpr ⟨_, rowOfOpcode_descriptor i⟩, fun r hr => ?_⟩
  obtain ⟨op, hop⟩ := (mem_cycleTable_iff r).mp hr
  obtain ⟨⟨i, rest⟩, -, hrow⟩ := Option.map_eq_some_iff.mp hop
  exact ⟨i, hrow⟩

end Sys2Proof.Machine
end
